-- ==== Sys2Proof/Word.lean ====
section
/-! DEFINITION. The words the part's fields are made of, under the names spec/ uses for them. -/

namespace Sys2Proof

/-- One byte of a frame, a message or a parameter. -/
abbrev Byte := BitVec 8

/-- A two-byte field (counters, snapshot id, generation, prices). -/
abbrev Half := BitVec 16

/-- A four-byte field (consumption, calendar second, uptime, limits). -/
abbrev Word := BitVec 32

/-- A signed four-byte amount of money in CR (balances and levels); its value is `toInt`. -/
abbrev Credit := BitVec 32

/-- A meter identity, 48 bits (00_scope.md 0.5). -/
abbrev Identity := BitVec 48

/-- The number of an account slot, 000h..3FFh (R1). -/
abbrev Slot := Fin 1024

/-- The number of a meter line, 0..3 (R66). -/
abbrev LineNo := Fin 4

/-- The number of a tariff class, 0..15 (R42). -/
abbrev ClassNo := Fin 16

/-- The number of a notice group, 0..7 (R134). -/
abbrev GroupNo := Fin 8

/-- A set of notice kinds: kind n is bit n (R132). -/
abbrev KindSet := BitVec 7

/-- A moment on the meter lines, in ticks of 1/192000 s. A millisecond is 192 ticks, and the bit
times of the four rates are 80, 20, 10 and 5 ticks, so every time of chapter 4 is a whole number. -/
abbrev Moment := Nat

end Sys2Proof
end

