-- ==== Sys2Proof/Syntax.lean ====
section
/-! DEFINITION. The commands: one constructor for each row of spec/opcode_table.json. The requests of
the host port carry no operands here: their parameters are those of the request in execution
(R185, R186). -/

namespace Sys2Proof

/-- Start mode of a start-up: the level of the STARTMODE pin or the mode field of PART_RESET (R174). -/
inductive StartMode where
  | blank | restore
  deriving DecidableEq, Repr

/-- The events of a pin reset (0.9): power is applied, or RESET_N is driven low while power is present
(R173 tells the two apart); the reset then holds until RESET_N is released high. -/
inductive ResetEvent where
  | powerApplied | resetDriven | released
  deriving DecidableEq, Repr

/-- The two ends of a character on LRXn: its start bit, with how long the line had been high before it
(R70), and its stop bit. -/
inductive CharacterPart where
  | startBit (highFor : Nat)
  | stopBit
  deriving DecidableEq, Repr

/-- The two ends of the grant of a line (R75, R76): the grant is made and its table work done, and its
result returns to the line. -/
inductive LineGrant where
  | work (line : LineNo)
  | result (line : LineNo)
  deriving DecidableEq, Repr

/-- A piece of an SPI transaction (R179): whether it begins with CS_N falling and the first byte, the
bytes on MOSI in its further byte times, and, where it ends with CS_N rising, after how many bits of one
more byte. -/
structure SpiPiece where
  opens : Bool
  received : List Byte
  ends : Option (Fin 8)
  deriving DecidableEq, Repr

/-- One of the two receive slots of a line by its place in the order of arrival (R73). -/
inductive SlotPlace where
  | older | younger
  deriving DecidableEq, Repr

/-- What the array gives when a page is read back for its verify (R165). -/
inductive ReadBack where
  | matched | mismatched
  deriving DecidableEq, Repr

/-- The commands of the part. -/
inductive Instr where
  -- resets, start-up, time; `startMode` is the level of STARTMODE at the event
  | pinReset (event : ResetEvent) (startMode : StartMode)
  | startUp
  | secondEdge
  | silenceExpiry
  | graceExpiry
  -- meter lines; `start` is the moment of a character's start bit, `byte` means nothing at that bit
  | frameCharacterReceived (line : LineNo) (byte : Byte) (start : Moment) (part : CharacterPart)
  | framingError (line : LineNo) (start : Moment) (part : CharacterPart)
  | frameGapTimeout (line : LineNo) (now : Moment)
  | reportFrame (line : LineNo) (byte : Byte) (start : Moment)
  | contentionCharacter (line : LineNo) (highFor : Nat)
  | replyDeadline (line : LineNo) (place : SlotPlace) (now : Moment)
  | replyStart (line : LineNo) (now : Moment)
  | replySent (line : LineNo) (now : Moment)
  | reportGrant (grant : LineGrant)
  -- snapshot sweep and retention store
  | sweepStep
  | settingsPageCapture
  | accountPageCapture
  | pageEraseDone
  | pageProgramDone
  | pageVerifyDone (readBack : ReadBack)
  | wipePageEraseDone
  -- SPI transactions, whole or in pieces of whole byte times after the first byte, and the executor
  | requestWrite (piece : SpiPiece)
  | responseRead (piece : SpiPiece)
  | statusRead (piece : SpiPiece)
  | portFlush (piece : SpiPiece)
  | unknownTransaction (first : Byte) (piece : SpiPiece)
  | executorTake
  | overflowFaultResponse
  -- requests: accounts
  | enrol
  | accountRead
  | find
  | setClass
  | setGroup
  | setLow
  | retire
  | purge
  | tableStatus
  | highwaterReset
  | adjust
  | suspend
  | unsuspend
  -- requests: tariffs
  | tariffStage
  | tariffRead
  | tariffCommit
  | tariffDiscard
  | setBand
  -- requests: lines
  | lineConfig
  | lineMode
  | lineStatus
  | lineClear
  -- requests: unknown meters
  | setUnknownPolicy
  | discoveryTake
  | discoveryClear
  -- requests: time, silence, grace
  | setSilence
  | setGrace
  | setTime
  | readTime
  -- requests: notices
  | groupConfig
  | noticeFetch
  | noticeAck
  | noticeClear
  | noticeEnable
  | groupStatus
  -- requests: snapshot
  | snapshotTake
  | snapshotRead
  | snapshotTotals
  | snapshotRelease
  -- requests: retention store
  | checkpoint
  | checkpointAbort
  | storeStatus
  | storeWipe
  -- requests: the port itself
  | partIdent
  | partReset
  deriving DecidableEq, Repr

end Sys2Proof
end

