-- ==== Sys2Proof/Machine/Sparse.lean ====
section
/-! DEFINITION. Sparse maps over the numbers below a bound, used for the account table, the shadow
records and the index buckets: a list of (key, value) pairs in ONE canonical form, keys strictly
rising and no value equal to what an unlisted key reads as. -/

namespace Sys2Proof.Machine

/-- A sparse map from the numbers below `n`. -/
abbrev Sparse (n : Nat) (α : Type) := List (Fin n × α)

/-- What key `i` reads as; `d` where it is not listed. -/
def Sparse.get {n : Nat} {α : Type} (d : α) : Sparse n α → Fin n → α
  | [], _ => d
  | (j, a) :: m, i => if j = i then a else Sparse.get d m i

/-- Puts a pair in front of the first larger key. -/
def Sparse.insert {n : Nat} {α : Type} (i : Fin n) (a : α) : Sparse n α → Sparse n α
  | [] => [(i, a)]
  | (j, b) :: m => if i < j then (i, a) :: (j, b) :: m else (j, b) :: Sparse.insert i a m

/-- Writes key `i`; writing the default removes the entry. -/
def Sparse.set {n : Nat} {α : Type} [DecidableEq α] (d : α) (m : Sparse n α) (i : Fin n) (a : α) :
    Sparse n α :=
  let rest := m.filter fun p => decide (p.1 ≠ i)
  if a = d then rest else Sparse.insert i a rest

/-- The canonical form. -/
abbrev Sparse.wf {n : Nat} {α : Type} (d : α) (m : Sparse n α) : Prop :=
  m.Pairwise (fun p q => p.1 < q.1) ∧ ∀ p ∈ m, p.2 ≠ d

end Sys2Proof.Machine
end

