-- ==== Sys2Proof/Machine/Types.lean ====
section
/-! DEFINITION. The data of each block, as plain data: account records (chapter 1), the identity
index (2), tariffs (3), meter lines (4), the discovery list (5), supervision (6), notices (7), the
snapshot (8), the retention store (9) and the host port (10). -/

namespace Sys2Proof.Machine

/-! ### Account records -/

/-- The account states of 1.2. -/
inductive AccountState where
  | free | active | grace | held | closing
  deriving DecidableEq, Repr

/-- The fields of a record that the dirty flag watches and an account page keeps (R4, R161). -/
structure AccountImage where
  state : AccountState
  identity : Identity
  suspended : Bool
  tariffClass : ClassNo
  group : GroupNo
  balance : Credit
  consumption : Word
  lowOverride : Option Credit
  lowArmed : Bool
  lastSequence : Option Byte
  lastLine : Option LineNo
  lastTime : Option Word
  reportCount : Half
  gapCount : Byte
  deriving DecidableEq, Repr

/-- An account record (R1): the image fields, and the three that no page keeps. -/
structure Record where
  image : AccountImage
  silent : Bool
  pending : KindSet
  dirty : Bool
  deriving DecidableEq, Repr

/-- The image fields of a FREE slot (R3). -/
def AccountImage.free : AccountImage where
  state := .free
  identity := 0
  suspended := false
  tariffClass := 0
  group := 0
  balance := 0
  consumption := 0
  lowOverride := none
  lowArmed := false
  lastSequence := none
  lastLine := none
  lastTime := none
  reportCount := 0
  gapCount := 0

/-- A FREE slot with a clear dirty flag (R3, R5). -/
def Record.free : Record where
  image := .free
  silent := false
  pending := 0
  dirty := false

/-! ### The table arbiter -/

/-- The eight claimants (R10). -/
inductive Claimant where
  | line (n : LineNo) | exec | supv | sweep | capt
  deriving DecidableEq, Repr

/-! ### The identity index -/

/-- An occupied way (R29). -/
structure IndexEntry where
  identity : Identity
  slot : Slot
  deriving DecidableEq, Repr

/-- The four ways of a bucket (R29). -/
abbrev Bucket := Vector (Option IndexEntry) 4

/-- A bucket with every way empty. -/
def Bucket.empty : Bucket := Vector.replicate 4 none

/-- An entry of the spill list (R30). -/
structure SpillEntry where
  identity : Identity
  slot : Slot
  bucket : Fin 256
  deriving DecidableEq, Repr

/-- The identity index: the buckets, and the spill list with the oldest entry first (R29, R30). -/
structure Index where
  buckets : Sparse 256 Bucket
  spill : List SpillEntry
  deriving DecidableEq, Repr

/-! ### Tariffs -/

/-- One tariff class (R42). -/
structure TariffClass where
  price : Vector Half 4
  low : Credit
  hold : Credit
  resume : Credit
  deriving DecidableEq, Repr

/-- The tariff unit (R42, R49). -/
structure TariffUnit where
  live : Vector TariffClass 16
  staged : Vector TariffClass 16
  band : Fin 4
  deriving DecidableEq, Repr

/-! ### Meter lines -/

/-- The four line rates (R66). -/
inductive Rate where
  | r2400 | r9600 | r19200 | r38400
  deriving DecidableEq, Repr

/-- The line modes (R82). -/
inductive LineMode where
  | disabled | monitor | active | echo
  deriving DecidableEq, Repr

/-- Where a frame in progress stands: a character arrives since its start bit, or the latest character
has ended (R70). -/
inductive FramePhase where
  | character (start : Moment)
  | gap (ended : Moment)
  deriving DecidableEq, Repr

/-- The receiver states (R70). ASSEMBLING begins at the start bit of a frame's first character, and holds
the bytes received so far: none while that character arrives (log 26). -/
inductive Receiver where
  | off
  | listening
  | assembling (bytes : List Byte) (phase : FramePhase)
  | muted
  deriving DecidableEq, Repr

/-- The supply command of a reply (R63). -/
inductive SupplyCommand where
  | on | hold
  deriving DecidableEq, Repr

/-- The reason of a reply (R69). -/
inductive Reason where
  | normal | grace | balance | admin | closed | unknown | test
  deriving DecidableEq, Repr

/-- Reply content: command, reason and balance class 0..2 (R63, R64). -/
structure ReplyContent where
  command : SupplyCommand
  reason : Reason
  balanceClass : Fin 3
  deriving DecidableEq, Repr

/-- The place of a READY slot in return order (R73). -/
inductive ReturnOrder where
  | first | second
  deriving DecidableEq, Repr

/-- The state of an occupied receive slot (R74); the content is held in READY and SENDING. IN_TABLE holds
what the grant composed for it, reply content or the no-reply mark, until it returns (R76, R106). -/
inductive RxState where
  | waiting
  | inTable (result : Option ReplyContent)
  | ready (content : ReplyContent) (order : ReturnOrder)
  | sending (content : ReplyContent)
  deriving DecidableEq, Repr

/-- An occupied receive slot (R73). An EMPTY slot holds nothing and is not listed. -/
structure RxSlot where
  state : RxState
  identity : Identity
  sequence : Byte
  usage : Half
  ended : Moment
  deadline : Moment
  late : Bool
  discard : Bool
  deriving DecidableEq, Repr

/-- A reply being sent: its thirteen bytes, the rate it started with and the end of its last stop bit
(R69, R81, R88). -/
structure Sending where
  frame : List Byte
  rate : Rate
  endsAt : Moment
  deriving DecidableEq, Repr

/-- The ten counters of a line, in the order of R87. -/
structure LineCounters where
  goodReports : Half
  crcErrors : Half
  framingErrors : Half
  kindErrors : Half
  overruns : Half
  lateReplies : Half
  contention : Half
  repliesSent : Half
  duplicates : Half
  unknownReports : Half
  deriving DecidableEq, Repr

/-- One meter line. `slots` holds the occupied receive slots, at most two, the older first (R73);
`awaitHigh` says that a low stop bit was seen and LRXn has not yet been high for a bit time (R70);
`transmitter` is none when idle (R80), and LDEn is asserted exactly while it is not (R66). -/
structure Line where
  mode : LineMode
  rate : Rate
  window : Byte
  receiver : Receiver
  awaitHigh : Bool
  transmitter : Option Sending
  slots : List RxSlot
  counters : LineCounters
  deriving DecidableEq, Repr

/-! ### The discovery list -/

/-- The unknown-meter policies (R96). -/
inductive UnknownPolicy where
  | hold | on | quiet
  deriving DecidableEq, Repr

/-- An entry of the discovery list (R109). -/
structure DiscoveryEntry where
  identity : Identity
  line : LineNo
  firstSeen : Word
  sightings : Byte
  lastSequence : Byte
  deriving DecidableEq, Repr

/-- The discovery list block (R96, R109). -/
structure Discovery where
  entries : List DiscoveryEntry
  overflow : Half
  policy : UnknownPolicy
  deriving DecidableEq, Repr

/-! ### Supervision -/

/-- An entry of the silence or the grace list (R118). -/
structure TimedEntry where
  slot : Slot
  time : Word
  deriving DecidableEq, Repr

/-- The supervision unit (R115, R118, R120, R121, R125). The head of a list is its first entry. -/
structure Supervision where
  uptime : Word
  calendar : Word
  silenceLimit : Word
  gracePeriod : Half
  silence : List TimedEntry
  grace : List TimedEntry
  silenceMark : Bool
  graceMark : Bool
  deriving DecidableEq, Repr

/-! ### Notices -/

/-- The seven notice kinds (R132). -/
inductive NoticeKind where
  | low | grace | held | resumed | silent | gap | closed
  deriving DecidableEq, Repr

/-- Priority of a notice group (R134). -/
inductive Priority where
  | low | high
  deriving DecidableEq, Repr

/-- State of a notice group (R134). -/
inductive GroupState where
  | quiet | raised | served
  deriving DecidableEq, Repr

/-- A notice group (R134); `count` is indexed by kind number. -/
structure Group where
  mask : KindSet
  priority : Priority
  state : GroupState
  count : Vector Nat 7
  deriving DecidableEq, Repr

/-- The notice controller (R134, R136). -/
structure Notices where
  groups : Vector Group 8
  enable : Bool
  deriving DecidableEq, Repr

/-! ### The snapshot unit -/

/-- Snapshot states (R148). -/
inductive SnapshotState where
  | idle | sweeping | ready
  deriving DecidableEq, Repr

/-- The fields a present shadow holds (R150). -/
structure ShadowFields where
  identity : Identity
  tariffClass : ClassNo
  state : AccountState
  suspended : Bool
  balance : Credit
  consumption : Word
  reportCount : Half
  deriving DecidableEq, Repr

/-- A shadow record (R150): captured or not, present with its fields or absent. -/
structure Shadow where
  captured : Bool
  fields : Option ShadowFields
  deriving DecidableEq, Repr

/-- An uncaptured, absent shadow (R148). -/
def Shadow.blank : Shadow where
  captured := false
  fields := none

/-- The snapshot unit (R148). -/
structure Snapshot where
  state : SnapshotState
  id : Half
  cutStamp : Word
  cursor : Nat
  present : Nat
  consumptionSum : BitVec 48
  balanceSum : BitVec 48
  shadows : Sparse 1024 Shadow
  deriving DecidableEq, Repr

/-! ### The retention store -/

/-- An account image as a page holds it (R161): class, group and last line are whole bytes, which
the restore checks (R176). -/
structure StoredImage where
  state : AccountState
  identity : Identity
  suspended : Bool
  tariffClass : Byte
  group : Byte
  balance : Credit
  consumption : Word
  lowOverride : Option Credit
  lowArmed : Bool
  lastSequence : Option Byte
  lastLine : Option Byte
  lastTime : Option Word
  reportCount : Half
  gapCount : Byte
  deriving DecidableEq, Repr

/-- The content of the settings page (R162). An accepted page holds values of these types alone: no code
of a band, policy, mask, priority or rate is out of range (DESIGN CHOICE, log 28). -/
structure Settings where
  live : Vector TariffClass 16
  band : Fin 4
  gracePeriod : Half
  silenceLimit : Word
  policy : UnknownPolicy
  groups : Vector (KindSet × Priority) 8
  lines : Vector (Rate × Byte) 4
  deriving DecidableEq, Repr

/-- The figures a header keeps (R163). -/
structure HeaderFigures where
  pagesWritten : Nat
  pagesFailing : Nat
  completion : Word
  deriving DecidableEq, Repr

/-- What a written page holds; the page kind of its trailer is the constructor (R160). -/
inductive PageBody where
  | header (figures : HeaderFigures)
  | settings (settings : Settings)
  | account (images : Vector StoredImage 16)
  deriving DecidableEq, Repr

/-- A page of the array or the latch (R160). The byte layout of a page's content is not given, so a
page is its fields; `crcGood` says whether its CRC agrees with the bytes before it. -/
inductive Page where
  /-- every byte FFh -/
  | erased
  /-- partly erased or partly programmed; it fails acceptance (R173) -/
  | damaged
  /-- programmed whole, with its trailer -/
  | written (body : PageBody) (number : Nat) (generation : Half) (crcGood : Bool)
  deriving DecidableEq, Repr, Inhabited

/-- What an erase or program that a reset cut off leaves of its work (R173). -/
inductive CutOff where
  | notBegun | partway | finished
  deriving DecidableEq, Repr, Inhabited

/-- Store states (R164). -/
inductive StoreState where
  | start | idle | checkpoint | aborting | wiping
  deriving DecidableEq, Repr

/-- Checkpoint modes (R166). -/
inductive CheckpointMode where
  | full | dirty
  deriving DecidableEq, Repr

/-- The step a page in progress stands in (R165). -/
inductive WritePhase where
  | erasing | programming | verifying
  deriving DecidableEq, Repr

/-- The page in progress and its phase (R164, R165). -/
structure PageWork where
  page : Fin 66
  phase : WritePhase
  deriving DecidableEq, Repr

/-- What the standing CAPT claim is for (R166, R167). -/
inductive CaptureWork where
  | settings | account
  deriving DecidableEq, Repr

/-- Results of the store (R164). -/
inductive LastResult where
  | none | complete | completeWithFailures | aborted | wiped | interrupted
  deriving DecidableEq, Repr

/-- The restore figures (R164, R172). -/
structure RestoreFigures where
  loaded : Nat
  lost : Nat
  differing : Nat
  duplicates : Nat
  unplaced : Nat
  deriving DecidableEq, Repr

/-- The retention store and its controller (R160, R164). `rewrite` lists account pages by their
number k = page - 2, in ascending order. -/
structure Store where
  array : Vector Page 66
  state : StoreState
  mode : CheckpointMode
  generation : Half
  cursor : Nat
  inProgress : Option PageWork
  latch : Page
  claim : Option CaptureWork
  headerGeneration : Half
  headerFigures : HeaderFigures
  lastResult : LastResult
  verifyFailures : Nat
  pagesWritten : Nat
  rewrite : List (Fin 64)
  restored : RestoreFigures
  startMode : StartMode
  deriving DecidableEq, Repr

/-! ### The host port -/

/-- The requests, by name; their codes are those of R192. -/
inductive Req where
  | enrol | accountRead | find | setClass | setGroup | setLow | retire | purge | tableStatus
  | highwaterReset | adjust | suspend | unsuspend | tariffStage | tariffRead | tariffCommit
  | tariffDiscard | setBand | lineConfig | lineMode | lineStatus | lineClear | setUnknownPolicy
  | discoveryTake | discoveryClear | setSilence | setGrace | setTime | readTime | groupConfig
  | noticeFetch | noticeAck | noticeClear | noticeEnable | groupStatus | snapshotTake
  | snapshotRead | snapshotTotals | snapshotRelease | checkpoint | checkpointAbort | storeStatus
  | storeWipe | partIdent | partReset
  deriving DecidableEq, Repr

/-- A request taken by the executor (R184, R185). -/
structure Request where
  req : Req
  tag : Byte
  params : List Byte
  deriving DecidableEq, Repr

/-- Port states (R178). -/
inductive PortState where
  | start | ready | fault
  deriving DecidableEq, Repr

/-- Fault causes (R178). -/
inductive FaultCause where
  | none | unknownCode | badLength | overflow
  deriving DecidableEq, Repr

/-- An SPI transaction under way (R179): its first byte, the status bytes that a STATUS_READ has still to
send (R182), and whether a PART_RESET has ended it for the port (R190). -/
structure Spi where
  first : Byte
  status : List Byte
  ended : Bool
  deriving DecidableEq, Repr

/-- The host port (R178 to R182). `opened` says whether the port has gone to READY since the latest
reset (R5, R131); `spi` is the transaction under way, while CS_N is low; `miso` is what MISO carried
during the latest transaction, byte by byte, and `misoBits` the bits of a byte that CS_N cut off
(R179). -/
structure Port where
  state : PortState
  cause : FaultCause
  faultResponse : Bool
  underrun : Bool
  requests : List Byte
  responses : List Byte
  executing : Option Request
  opened : Bool
  spi : Option Spi
  miso : List Byte
  misoBits : List Bool
  deriving DecidableEq, Repr

end Sys2Proof.Machine
end

