-- ==== Sys2Proof/Config.lean ====
section
/-! DEFINITION. What the part fixes once (its sizes), and the free values: constants without a body
for what spec/ leaves open, each applied to the counter `State.freeCount` so that every use is a new
one. -/

namespace Sys2Proof

/-- Room of the request queue in bytes (R180). -/
def Config.requestRoom : Nat := 256

/-- Room of the response queue in bytes (R181). -/
def Config.responseRoom : Nat := 512

/-- Entries of the spill list (R30). -/
def Config.spillRoom : Nat := 16

/-- Entries of the discovery list (R109). -/
def Config.discoveryRoom : Nat := 8

/-- FREE VALUE (R173, log 9): how far an erase or program had come when a reset cut it off. -/
opaque Config.cutOff : Nat → Machine.CutOff

/-- FREE VALUE (R165, log 10): whether a page that failed its verify still passes its CRC when it is
read at a later restore. -/
opaque Config.failedPageReads : Nat → Bool

/-- FREE VALUE (R164, log 11): what the page latch holds after a reset. -/
opaque Config.latchAfterReset : Nat → Machine.Page

end Sys2Proof
end

