-- ==== Sys2Proof/Machine/State.lean ====
section
/-! DEFINITION. The state of the part, its fault and refusal reasons, and the state after reset. -/

namespace Sys2Proof.Machine

/-- The whole part. `table` reads as `Record.free` for a slot it does not list; `freeCount` names the
next free value (it is the model's own, log 9); `pending` is the queue of commands still to be
carried out, oldest first; `resetHeld` says that a pin reset is driven and not yet released (R178, R183).
Claims, NOTE_N, RDY and LDEn are functions of this state. -/
structure State where
  table : Sparse 1024 Record
  occupancy : Nat
  highWater : Nat
  rotation : Claimant
  index : Index
  tariff : TariffUnit
  lines : Vector Line 4
  discovery : Discovery
  supv : Supervision
  notices : Notices
  snapshot : Snapshot
  store : Store
  port : Port
  resetHeld : Bool
  freeCount : Nat
  pending : List Instr
  deriving DecidableEq, Repr

/-- Why a step stops with a fault: never. The spec describes no event that stops the part; its port
fault is a state of the port (R185), which the model takes as a next state. -/
inductive Fault where
  deriving DecidableEq, Repr

/-- Why a step has no meaning. -/
inductive Refusal where
  /-- The command has no meaning in this model yet; raised by `exec` only. Safe: nothing is claimed
  of such a step. -/
  | notModelled (mnemonic : String)
  deriving DecidableEq, Repr

/-! ### Reset values of the blocks, each as its own chapter gives it -/

/-- R29, R30, R41. -/
def Index.reset : Index where
  buckets := []
  spill := []

/-- R42: all four prices 0, low level 0, hold level -1, resume level 0. -/
def TariffClass.reset : TariffClass where
  price := Vector.replicate 4 0
  low := 0
  hold := BitVec.ofInt 32 (-1)
  resume := 0

/-- R42, R49. -/
def TariffUnit.reset : TariffUnit where
  live := Vector.replicate 16 .reset
  staged := Vector.replicate 16 .reset
  band := 0

/-- R87. -/
def LineCounters.zero : LineCounters where
  goodReports := 0
  crcErrors := 0
  framingErrors := 0
  kindErrors := 0
  overruns := 0
  lateReplies := 0
  contention := 0
  repliesSent := 0
  duplicates := 0
  unknownReports := 0

/-- R92: DISABLED, 9600 bit/s, 40 ms, both slots EMPTY, nothing being sent. -/
def Line.reset : Line where
  mode := .disabled
  rate := .r9600
  window := 40
  receiver := .off
  awaitHigh := false
  transmitter := none
  slots := []
  counters := .zero

/-- R96, R109. -/
def Discovery.reset : Discovery where
  entries := []
  overflow := 0
  policy := .hold

/-- R131; the calendar is 0 after a pin reset and kept by PART_RESET (R115). -/
def Supervision.reset (calendar : Word) : Supervision where
  uptime := 0
  calendar := calendar
  silenceLimit := 0
  gracePeriod := 0
  silence := []
  grace := []
  silenceMark := false
  graceMark := false

/-- R134, R147. -/
def Group.reset : Group where
  mask := 0x7F
  priority := .low
  state := .quiet
  count := Vector.replicate 7 0

/-- R134, R136, R147. -/
def Notices.reset : Notices where
  groups := Vector.replicate 8 .reset
  enable := false

/-- R148, R159. -/
def Snapshot.reset : Snapshot where
  state := .idle
  id := 0
  cutStamp := 0
  cursor := 0
  present := 0
  consumptionSum := 0
  balanceSum := 0
  shadows := []

/-- Header figures of 0 (R163). -/
def HeaderFigures.zero : HeaderFigures where
  pagesWritten := 0
  pagesFailing := 0
  completion := 0

/-- Restore figures of 0 (R164). -/
def RestoreFigures.zero : RestoreFigures where
  loaded := 0
  lost := 0
  differing := 0
  duplicates := 0
  unplaced := 0

/-- R164, R173: the store controller after a reset, with the array, the latch, the last result and the
start mode that the reset leaves. Header generation, header figures and rewrite set are 0 and empty
until START_UP sets them (DESIGN CHOICE, log 7). -/
def Store.reset (array : Vector Page 66) (latch : Page) (lastResult : LastResult)
    (startMode : StartMode) : Store where
  array := array
  state := .start
  mode := .full
  generation := 0
  cursor := 2
  inProgress := none
  latch := latch
  claim := none
  headerGeneration := 0
  headerFigures := .zero
  lastResult := lastResult
  verifyFailures := 0
  pagesWritten := 0
  rewrite := []
  restored := .zero
  startMode := startMode

/-- R178. -/
def Port.reset : Port where
  state := .start
  cause := .none
  faultResponse := false
  underrun := false
  requests := []
  responses := []
  executing := none
  opened := false
  spi := none
  miso := []
  misoBits := []

/-- The machine right after a pin reset by power and its release, before its start-up: every block at
its reset value. DESIGN CHOICE (log 6): a new part's array is erased, STARTMODE is low, the latch is erased. -/
def State.reset : State where
  table := []
  occupancy := 0
  highWater := 0
  rotation := .line 0
  index := .reset
  tariff := .reset
  lines := Vector.replicate 4 .reset
  discovery := .reset
  supv := .reset 0
  notices := .reset
  snapshot := .reset
  store := .reset (Vector.replicate 66 .erased) .erased .none .blank
  port := .reset
  resetHeld := false
  freeCount := 0
  pending := []

end Sys2Proof.Machine
end

