-- ==== Sys2Proof/Machine/Operands.lean ====
section
/-! DEFINITION. Fields as bytes: reading the parameters of a request, the encodings of R194, the CRC of
R27, the request codes and length ranges of R192, and the result codes of R191. -/

namespace Sys2Proof.Machine

/-! ### Reading parameters, most significant byte first (0.5) -/

/-- Byte `i` of a parameter block (0 past its end, which R192's ranges keep from being read, log 24). -/
def byteAt (ps : List Byte) (i : Nat) : Byte := ps.getD i 0

/-- The two-byte field at offset `i`. -/
def halfAt (ps : List Byte) (i : Nat) : Half := byteAt ps i ++ byteAt ps (i + 1)

/-- The four-byte field at offset `i`. -/
def wordAt (ps : List Byte) (i : Nat) : Word := halfAt ps i ++ halfAt ps (i + 2)

/-- The identity at offset `i`. -/
def identityAt (ps : List Byte) (i : Nat) : Identity := halfAt ps i ++ wordAt ps (i + 2)

/-- A parameter value as a number below `n`, where it is one. -/
def below (n v : Nat) : Option (Fin n) := if h : v < n then some ⟨v, h⟩ else none

/-- The slot at offset `i`, where it is 0..1023 (R14). -/
def slotAt (ps : List Byte) (i : Nat) : Option Slot := below 1024 (halfAt ps i).toNat

/-- The line at offset `i`, where it is 0..3 (R88). -/
def lineAt (ps : List Byte) (i : Nat) : Option LineNo := below 4 (byteAt ps i).toNat

/-- The tariff class at offset `i`, where it is 0..15 (R15). -/
def classAt (ps : List Byte) (i : Nat) : Option ClassNo := below 16 (byteAt ps i).toNat

/-- The group at offset `i`, where it is 0..7 (R15). -/
def groupAt (ps : List Byte) (i : Nat) : Option GroupNo := below 8 (byteAt ps i).toNat

/-- The kind set at offset `i`, where bit 7 is clear (R141, R142). -/
def kindsAt (ps : List Byte) (i : Nat) : Option KindSet :=
  let b := byteAt ps i
  if b.getLsbD 7 then none else some (b.setWidth 7)

/-- The identities that no account may have (0.5). -/
def validIdentity (id : Identity) : Bool := id != 0 && id != BitVec.allOnes 48

/-! ### Writing fields, most significant byte first (0.5) -/

/-- A two-byte field. -/
def bytes16 (v : Half) : List Byte := [v.extractLsb' 8 8, v.extractLsb' 0 8]

/-- A four-byte field. -/
def bytes32 (v : Word) : List Byte := bytes16 (v.extractLsb' 16 16) ++ bytes16 (v.extractLsb' 0 16)

/-- A six-byte field: an identity or a snapshot sum. -/
def bytes48 (v : BitVec 48) : List Byte :=
  bytes16 (v.extractLsb' 32 16) ++ bytes32 (v.extractLsb' 0 32)

/-- A number as a one-byte field. -/
def num8 (n : Nat) : List Byte := [BitVec.ofNat 8 n]

/-- A number as a two-byte field. -/
def num16 (n : Nat) : List Byte := bytes16 (BitVec.ofNat 16 n)

/-- A slot number (R194). -/
def slotBytes (i : Slot) : List Byte := num16 i.val

/-- A yes/no field (R194). -/
def yesNo (b : Bool) : Byte := if b then 0x01 else 0x00

/-- An account state (R194). -/
def AccountState.code : AccountState → Byte
  | .active => 0x00
  | .grace => 0x01
  | .held => 0x02
  | .closing => 0x03
  | .free => 0x04

/-- A kind set (R194): bit 7 is clear. -/
def kindByte (k : KindSet) : Byte := k.setWidth 8

/-- Line modes (R89). -/
def LineMode.code : LineMode → Byte
  | .disabled => 0x00
  | .monitor => 0x01
  | .active => 0x02
  | .echo => 0x03

/-- The mode a code names (R89). -/
def LineMode.ofCode (b : Byte) : Option LineMode :=
  [LineMode.disabled, .monitor, .active, .echo].find? fun m => m.code == b

/-- Line rates (R66). -/
def Rate.code : Rate → Byte
  | .r2400 => 0x00
  | .r9600 => 0x01
  | .r19200 => 0x02
  | .r38400 => 0x03

/-- The rate a code names (R66, R88). -/
def Rate.ofCode (b : Byte) : Option Rate :=
  [Rate.r2400, .r9600, .r19200, .r38400].find? fun r => r.code == b

/-- Unknown-meter policies (R97). -/
def UnknownPolicy.code : UnknownPolicy → Byte
  | .hold => 0x00
  | .on => 0x01
  | .quiet => 0x02

/-- The policy a code names (R97). -/
def UnknownPolicy.ofCode (b : Byte) : Option UnknownPolicy :=
  [UnknownPolicy.hold, .on, .quiet].find? fun p => p.code == b

/-- Supply commands (R69). -/
def SupplyCommand.code : SupplyCommand → Byte
  | .on => 0x00
  | .hold => 0x01

/-- Reasons (R69). -/
def Reason.code : Reason → Byte
  | .normal => 0x00
  | .grace => 0x01
  | .balance => 0x02
  | .admin => 0x03
  | .closed => 0x04
  | .unknown => 0x05
  | .test => 0x06

/-- Group states (R140, R143). -/
def GroupState.code : GroupState → Byte
  | .quiet => 0x00
  | .raised => 0x01
  | .served => 0x02

/-- Priorities (R142). -/
def Priority.code : Priority → Byte
  | .low => 0x00
  | .high => 0x01

/-- The priority a code names (R142). -/
def Priority.ofCode (b : Byte) : Option Priority :=
  [Priority.low, .high].find? fun p => p.code == b

/-- Snapshot states (R157, R191). -/
def SnapshotState.code : SnapshotState → Byte
  | .idle => 0x00
  | .sweeping => 0x01
  | .ready => 0x02

/-- Store states as STORE_STATUS and CHECKPOINT_ABORT send them (R170, R172). START is never sent: no
request is carried out before start-up has ended (log 18). -/
def StoreState.code : StoreState → Byte
  | .idle | .start => 0x00
  | .checkpoint => 0x01
  | .aborting => 0x02
  | .wiping => 0x03

/-- Last results (R172). -/
def LastResult.code : LastResult → Byte
  | .none => 0x00
  | .complete => 0x01
  | .completeWithFailures => 0x02
  | .aborted => 0x03
  | .wiped => 0x04
  | .interrupted => 0x05

/-- Start modes (R172, R190). -/
def startModeCode : StartMode → Byte
  | .blank => 0x00
  | .restore => 0x01

/-- The start mode a code names (R190). -/
def startModeOfCode (b : Byte) : Option StartMode :=
  [StartMode.blank, .restore].find? fun m => startModeCode m == b

/-- Port states (R182). -/
def PortState.code : PortState → Byte
  | .start => 0x00
  | .ready => 0x01
  | .fault => 0x02

/-- Fault causes (R178, R191). -/
def FaultCause.code : FaultCause → Byte
  | .none => 0x00
  | .unknownCode => 0x01
  | .badLength => 0x02
  | .overflow => 0x03

/-! ### The CRC (R27) -/

/-- One bit of the CRC: shift left, and combine with 1021h if the bit and the top bit differ. -/
def crcBit (reg : Half) (b : Bool) : Half :=
  let shifted := reg <<< 1
  if reg.msb != b then shifted ^^^ 0x1021 else shifted

/-- The eight bits of a byte, most significant first. -/
def bitsOf (b : Byte) : List Bool := [7, 6, 5, 4, 3, 2, 1, 0].map b.getLsbD

/-- One byte of the CRC. -/
def crcByte (reg : Half) (b : Byte) : Half := (bitsOf b).foldl crcBit reg

/-- The CRC of a sequence of bytes. -/
def crc16 (bs : List Byte) : Half := bs.foldl crcByte 0xFFFF

/-- The bucket of an identity: the low eight bits of its CRC (R28). -/
def bucketOf (id : Identity) : Fin 256 :=
  ⟨(crc16 (bytes48 id)).toNat % 256, Nat.mod_lt _ (by decide)⟩

/-! ### Request codes and length ranges (R192) -/

/-- The code of a request. -/
def Req.code : Req → Byte
  | .enrol => 0x10
  | .accountRead => 0x11
  | .find => 0x12
  | .setClass => 0x13
  | .setGroup => 0x14
  | .setLow => 0x15
  | .retire => 0x16
  | .purge => 0x17
  | .tableStatus => 0x18
  | .highwaterReset => 0x19
  | .adjust => 0x20
  | .suspend => 0x21
  | .unsuspend => 0x22
  | .tariffStage => 0x23
  | .tariffRead => 0x24
  | .tariffCommit => 0x25
  | .tariffDiscard => 0x26
  | .setBand => 0x27
  | .lineConfig => 0x30
  | .lineMode => 0x31
  | .lineStatus => 0x32
  | .lineClear => 0x33
  | .setUnknownPolicy => 0x38
  | .discoveryTake => 0x39
  | .discoveryClear => 0x3A
  | .setSilence => 0x40
  | .setGrace => 0x41
  | .setTime => 0x42
  | .readTime => 0x43
  | .groupConfig => 0x50
  | .noticeFetch => 0x51
  | .noticeAck => 0x52
  | .noticeClear => 0x53
  | .noticeEnable => 0x54
  | .groupStatus => 0x55
  | .snapshotTake => 0x60
  | .snapshotRead => 0x61
  | .snapshotTotals => 0x62
  | .snapshotRelease => 0x63
  | .checkpoint => 0x70
  | .checkpointAbort => 0x71
  | .storeStatus => 0x72
  | .storeWipe => 0x73
  | .partIdent => 0x7E
  | .partReset => 0x7F

/-- Every request, in the order of R192's table. -/
def Req.all : List Req :=
  [.enrol, .accountRead, .find, .setClass, .setGroup, .setLow, .retire, .purge, .tableStatus,
   .highwaterReset] ++
  [.adjust, .suspend, .unsuspend, .tariffStage, .tariffRead, .tariffCommit, .tariffDiscard,
   .setBand, .lineConfig, .lineMode, .lineStatus, .lineClear] ++
  [.setUnknownPolicy, .discoveryTake, .discoveryClear, .setSilence, .setGrace, .setTime,
   .readTime, .groupConfig, .noticeFetch, .noticeAck, .noticeClear, .noticeEnable,
   .groupStatus] ++
  [.snapshotTake, .snapshotRead, .snapshotTotals, .snapshotRelease, .checkpoint,
   .checkpointAbort, .storeStatus, .storeWipe, .partIdent, .partReset]

/-- The request a code names, if any. -/
def Req.ofCode (b : Byte) : Option Req := Req.all.find? fun r => r.code == b

/-- The least and greatest parameter length of a request. -/
def Req.lengths : Req → Nat × Nat
  | .enrol => (13, 19)
  | .setLow => (3, 7)
  | .tariffStage => (21, 21)
  | .find | .adjust => (6, 6)
  | .setSilence | .setTime => (4, 4)
  | .setClass | .setGroup | .lineConfig | .groupConfig | .noticeClear => (3, 3)
  | .accountRead | .retire | .purge | .suspend | .unsuspend | .tariffRead | .lineMode
  | .setGrace | .snapshotRead => (2, 2)
  | .setBand | .lineStatus | .lineClear | .setUnknownPolicy | .noticeFetch | .noticeAck
  | .noticeEnable | .groupStatus | .checkpoint | .partReset => (1, 1)
  | .tableStatus | .highwaterReset | .tariffCommit | .tariffDiscard | .discoveryTake
  | .discoveryClear | .readTime | .snapshotTake | .snapshotTotals | .snapshotRelease
  | .checkpointAbort | .storeStatus | .storeWipe | .partIdent => (0, 0)

/-- Whether a request is carried out inside an EXEC table grant (R186). -/
def Req.needsGrant : Req → Bool
  | .tariffStage | .tariffRead | .tariffDiscard | .lineConfig | .lineMode | .lineStatus
  | .lineClear | .noticeEnable | .checkpoint | .checkpointAbort | .storeStatus | .storeWipe
  | .partIdent | .partReset => false
  | .enrol | .accountRead | .find | .setClass | .setGroup | .setLow | .retire | .purge
  | .tableStatus | .highwaterReset | .adjust | .suspend | .unsuspend | .tariffCommit | .setBand
  | .setUnknownPolicy | .discoveryTake | .discoveryClear | .setSilence | .setGrace | .setTime
  | .readTime | .groupConfig | .noticeFetch | .noticeAck | .noticeClear | .groupStatus
  | .snapshotTake | .snapshotRead | .snapshotTotals | .snapshotRelease => true

/-! ### Results (R191) -/

/-- The result codes. -/
inductive Result where
  | ok | started | none | badParam | noAccount | duplicate | tableFull | indexFull | wrongState
  | range | busy | noSnapshot | snapshotActive | absent | notFound | stagedInvalid | lineActive
  | slotTaken | fault
  deriving DecidableEq, Repr

/-- The code of a result. -/
def Result.code : Result → Byte
  | .ok => 0x00
  | .started => 0x01
  | .none => 0x02
  | .badParam => 0x10
  | .noAccount => 0x11
  | .duplicate => 0x12
  | .tableFull => 0x13
  | .indexFull => 0x14
  | .wrongState => 0x15
  | .range => 0x16
  | .busy => 0x17
  | .noSnapshot => 0x18
  | .snapshotActive => 0x19
  | .absent => 0x1A
  | .notFound => 0x1B
  | .stagedInvalid => 0x1C
  | .lineActive => 0x1D
  | .slotTaken => 0x1E
  | .fault => 0x20

/-- What a block answers to a request: its result and its result bytes. -/
structure Answer where
  result : Result
  bytes : List Byte
  deriving DecidableEq, Repr

/-- A refusal: a result with no result bytes (R14, R193). -/
def Answer.bare (r : Result) : Answer where
  result := r
  bytes := []

/-- OK with result bytes. -/
def Answer.ok (bytes : List Byte) : Answer where
  result := .ok
  bytes := bytes

/-- A response message: tag, request code, result, result length, result bytes (R184, R191). -/
def responseBytes (tag code : Byte) (a : Answer) : List Byte :=
  [tag, code, a.result.code, BitVec.ofNat 8 a.bytes.length] ++ a.bytes

/-! ### Central layouts (R195) -/

/-- An optional field: its bytes, or zero bytes of its full width (R194). -/
def optionalWord (o : Option Word) : List Byte := bytes32 (o.getD 0)

/-- The presence byte of ACCOUNT_READ (R195). -/
def presenceByte (a : AccountImage) : Byte :=
  (if a.lowOverride.isSome then 0x01 else 0x00) ||| (if a.lastSequence.isSome then 0x02 else 0x00)
    ||| (if a.lastLine.isSome then 0x04 else 0x00) ||| (if a.lastTime.isSome then 0x08 else 0x00)

/-- The result bytes of ACCOUNT_READ (R17, R195). -/
def accountBytes (i : Slot) (r : Record) (effectiveLow : Credit) : List Byte :=
  let a := r.image
  slotBytes i ++ [a.state.code] ++ bytes48 a.identity ++ num8 a.tariffClass.val ++
    num8 a.group.val ++ [yesNo a.suspended] ++ bytes32 a.balance ++ bytes32 a.consumption ++
    [presenceByte a] ++ optionalWord a.lowOverride ++ bytes32 effectiveLow ++ [yesNo a.lowArmed] ++
    [a.lastSequence.getD 0] ++ num8 ((a.lastLine.map fun l => l.val).getD 0) ++
    optionalWord a.lastTime ++ bytes16 a.reportCount ++ [a.gapCount] ++ [yesNo r.silent] ++
    [kindByte r.pending] ++ [yesNo r.dirty]

/-- The result bytes of SNAPSHOT_READ on a present shadow (R155, R195). -/
def shadowBytes (id : Half) (i : Slot) (f : ShadowFields) : List Byte :=
  bytes16 id ++ slotBytes i ++ bytes48 f.identity ++ num8 f.tariffClass.val ++ [f.state.code] ++
    [yesNo f.suspended] ++ bytes32 f.balance ++ bytes32 f.consumption ++ bytes16 f.reportCount

/-- The ten counters in the order of R87 (R90, R91). -/
def LineCounters.bytes (c : LineCounters) : List Byte :=
  bytes16 c.goodReports ++ bytes16 c.crcErrors ++ bytes16 c.framingErrors ++ bytes16 c.kindErrors ++
    bytes16 c.overruns ++ bytes16 c.lateReplies ++ bytes16 c.contention ++ bytes16 c.repliesSent ++
    bytes16 c.duplicates ++ bytes16 c.unknownReports

/-- The fields of a tariff class in order (R44, R45). -/
def TariffClass.bytes (t : TariffClass) : List Byte :=
  bytes16 t.price[0] ++ bytes16 t.price[1] ++ bytes16 t.price[2] ++ bytes16 t.price[3] ++
    bytes32 t.low ++ bytes32 t.hold ++ bytes32 t.resume

/-! ### Meter frames (R68, R69) -/

/-- The bytes of a reply frame (R69). -/
def replyFrame (id : Identity) (sequence : Byte) (c : ReplyContent) : List Byte :=
  let body := [0xD2] ++ bytes48 id ++ [sequence, c.command.code, c.reason.code] ++
    num8 c.balanceClass.val
  body ++ bytes16 (crc16 body)

/-- Ticks of one bit time at a rate (R66). -/
def Rate.bitTicks : Rate → Nat
  | .r2400 => 80
  | .r9600 => 20
  | .r19200 => 10
  | .r38400 => 5

/-- One character time: ten bit times (R66). -/
def Rate.charTicks (r : Rate) : Nat := 10 * r.bitTicks

/-- Ticks of one millisecond. -/
def ticksPerMs : Nat := 192

end Sys2Proof.Machine
end

