-- ==== Sys2Proof/Machine/Flags.lean ====
section
/-! DEFINITION. What is computed from the state without changing it: levels, balance class and reply
content (chapter 3), eligibility and NOTE_N (7), due heads (6), claims and the arbiter's choice (1),
RDY and the status bytes (10). -/

namespace Sys2Proof.Machine

/-! ### Reading the account table -/

/-- The record of a slot. -/
def State.account (s : State) (i : Slot) : Record := Sparse.get Record.free s.table i

/-- The shadow record of a slot. -/
def Snapshot.shadow (sn : Snapshot) (i : Slot) : Shadow := Sparse.get Shadow.blank sn.shadows i

/-- The four ways of a bucket. -/
def Index.bucket (ix : Index) (b : Fin 256) : Bucket := Sparse.get Bucket.empty ix.buckets b

/-- Every slot, in ascending order. -/
def allSlots : List Slot := List.finRange 1024

/-- Slot j of account page k: 16k + j (R160). -/
def pageSlot (k : Fin 64) (j : Fin 16) : Slot := ⟨16 * k.val + j.val, by omega⟩

/-- Whether a slot is FREE. -/
def State.isFree (s : State) (i : Slot) : Bool := (s.account i).image.state == .free

/-- The lowest-numbered FREE slot (R8). -/
def State.lowestFree (s : State) : Option Slot := allSlots.find? s.isFree

/-- The number of accounts in a state (R25). -/
def State.countIn (s : State) (st : AccountState) : Nat :=
  allSlots.countP fun i => (s.account i).image.state == st

/-! ### Levels and replies -/

/-- The live class of an account. -/
def TariffUnit.classOf (t : TariffUnit) (a : AccountImage) : TariffClass := t.live[a.tariffClass]

/-- The effective low level: the override, or the low level of the live class (R2). -/
def TariffUnit.effectiveLow (t : TariffUnit) (a : AccountImage) : Credit :=
  a.lowOverride.getD (t.classOf a).low

/-- The balance class of a reply (R64). -/
def TariffUnit.balanceClass (t : TariffUnit) (a : AccountImage) : Fin 3 :=
  if a.balance.toInt ≤ (t.classOf a).hold.toInt then 2
  else if (t.effectiveLow a).toInt ≤ a.balance.toInt then 0
  else 1

/-- Command and reason of a reply to a known account: the first row of R63 that applies. -/
def AccountImage.commandReason (a : AccountImage) : SupplyCommand × Reason :=
  if a.state = .closing then (.hold, .closed)
  else if a.suspended then (.hold, .admin)
  else if a.state = .held then (.hold, .balance)
  else if a.state = .grace then (.on, .grace)
  else (.on, .normal)

/-- The reply content of a known account (R63, R64, R65). -/
def TariffUnit.replyContent (t : TariffUnit) (a : AccountImage) : ReplyContent where
  command := a.commandReason.1
  reason := a.commandReason.2
  balanceClass := t.balanceClass a

/-- The reply content on an ECHO line (R85). -/
def ReplyContent.test : ReplyContent where
  command := .on
  reason := .test
  balanceClass := 0

/-- What the table hands back for an unknown meter under a policy; none is the no-reply mark (R95). -/
def UnknownPolicy.result : UnknownPolicy → Option ReplyContent
  | .hold => some { command := .hold, reason := .unknown, balanceClass := 0 }
  | .on => some { command := .on, reason := .unknown, balanceClass := 0 }
  | .quiet => none

/-- The debit of a usage: usage times price, in full (R50). -/
def debitOf (usage price : Half) : Nat := usage.toNat * price.toNat

/-- A balance after a debit, stopping at the minimum (R51). -/
def debited (balance : Credit) (debit : Nat) : Credit :=
  let exact := balance.toInt - (debit : Int)
  if exact < -2147483648 then BitVec.intMin 32 else BitVec.ofInt 32 exact

/-- Whether an exact sum lies in the range of a balance (R51, R52). -/
def inCreditRange (v : Int) : Bool := decide (-2147483648 ≤ v ∧ v ≤ 2147483647)

/-! ### Sequence cases -/

/-- The four cases of R98. -/
inductive SequenceCase where
  | first | successor | duplicate | gap
  deriving DecidableEq, Repr

/-- The case of a report's sequence against the last sequence of its account (R98). -/
def sequenceCase (last : Option Byte) (sequence : Byte) : SequenceCase :=
  match last with
  | none => .first
  | some l => if sequence = l + 1 then .successor else if sequence = l then .duplicate else .gap

/-! ### Saturating counts (0.5) -/

/-- Rises by one and stops at 65535 (R87, R101, R110). -/
def satInc16 (v : Half) : Half := if v = BitVec.allOnes 16 then v else v + 1

/-- Rises by one and stops at 255 (R100, R110). -/
def satInc8 (v : Byte) : Byte := if v = BitVec.allOnes 8 then v else v + 1

/-! ### Notices -/

/-- The kind numbers (R132). -/
def NoticeKind.number : NoticeKind → Fin 7
  | .low => 0
  | .grace => 1
  | .held => 2
  | .resumed => 3
  | .silent => 4
  | .gap => 5
  | .closed => 6

/-- The set holding one kind. -/
def NoticeKind.bit (k : NoticeKind) : KindSet := BitVec.twoPow 7 k.number.val

/-- The kind numbers in order. -/
def kindNumbers : List (Fin 7) := [0, 1, 2, 3, 4, 5, 6]

/-- Whether a kind set holds kind `k`. -/
def KindSet.has (ks : KindSet) (k : Fin 7) : Bool := BitVec.getLsbD ks k.val

/-- A group is eligible when a kind enabled in its mask has a count above 0 (R135). -/
def Group.eligible (g : Group) : Bool :=
  kindNumbers.any fun k => KindSet.has g.mask k && decide (0 < g.count[k])

/-- NOTE_N is asserted (R136). -/
def Notices.noteN (n : Notices) : Bool := n.enable && n.groups.any fun g => g.state == .raised

/-- An account qualifies for a fetch from group `g` with mask `mask` (R138). -/
def Record.qualifies (g : GroupNo) (mask : KindSet) (r : Record) : Bool :=
  r.image.state != .free && r.image.group == g && (r.pending &&& mask) != 0

/-- The lowest slot that a fetch from group `g` finds (R138). -/
def State.fetchSlot (s : State) (g : GroupNo) : Option Slot :=
  allSlots.find? fun i => (s.account i).qualifies g s.notices.groups[g].mask

/-- The groups in order. -/
def allGroups : List GroupNo := [0, 1, 2, 3, 4, 5, 6, 7]

/-- The lowest-numbered RAISED group of a priority. -/
def Notices.raisedWith (n : Notices) (p : Priority) : Option GroupNo :=
  allGroups.find? fun g => n.groups[g].state == .raised && n.groups[g].priority == p

/-- The group that NOTICE_FETCH ANY chooses (R137). -/
def Notices.anyGroup (n : Notices) : Option GroupNo :=
  (n.raisedWith .high).or (n.raisedWith .low)

/-! ### Silence and grace -/

/-- The due moment of a list head under a limit, exact (R121). -/
def dueMoment (e : TimedEntry) (limit : Nat) : Nat := e.time.toNat + limit

/-- The head of the silence list is due (R121). -/
def Supervision.silenceDue (v : Supervision) : Bool :=
  match v.silence with
  | [] => false
  | e :: _ => v.silenceLimit != 0 && decide (dueMoment e v.silenceLimit.toNat ≤ v.uptime.toNat)

/-- The head of the grace list is due (R121). -/
def Supervision.graceDue (v : Supervision) : Bool :=
  match v.grace with
  | [] => false
  | e :: _ => decide (dueMoment e v.gracePeriod.toNat ≤ v.uptime.toNat)

/-- Which list a SUPV grant expires the head of. -/
inductive Expiry where
  | silence (e : TimedEntry) (rest : List TimedEntry)
  | grace (e : TimedEntry) (rest : List TimedEntry)
  deriving DecidableEq, Repr

/-- The expiry that a SUPV grant makes: the marked head, and of two marked heads the one due earlier,
the grace head where they are due in the same second (R122). -/
def Supervision.expiry (v : Supervision) : Option Expiry :=
  match v.silenceMark, v.silence, v.graceMark, v.grace with
  | true, e :: es, true, g :: gs =>
    if dueMoment e v.silenceLimit.toNat < dueMoment g v.gracePeriod.toNat then some (.silence e es)
    else some (.grace g gs)
  | true, e :: es, _, _ => some (.silence e es)
  | _, _, true, g :: gs => some (.grace g gs)
  | _, _, _, _ => none

/-! ### Lines -/

/-- Whether a receive slot is WAITING. -/
def RxSlot.isWaiting (r : RxSlot) : Bool := r.state == .waiting

/-- Whether a receive slot is IN_TABLE. -/
def RxSlot.isInTable (r : RxSlot) : Bool :=
  match r.state with
  | .inTable _ => true
  | .waiting | .ready _ _ | .sending _ => false

/-- Whether a receive slot is READY and first in return order. -/
def RxSlot.isFirstReady (r : RxSlot) : Bool :=
  match r.state with
  | .ready _ .first => true
  | _ => false

/-- Whether a receive slot is READY. -/
def RxSlot.isReady (r : RxSlot) : Bool :=
  match r.state with
  | .ready _ _ => true
  | _ => false

/-- Whether a receive slot is SENDING. -/
def RxSlot.isSending (r : RxSlot) : Bool :=
  match r.state with
  | .sending _ => true
  | _ => false

/-- The slot byte of LINE_STATUS (R90). -/
def RxSlot.statusByte (r : RxSlot) : Byte :=
  let st : Byte := match r.state with
    | .waiting => 0x01
    | .inTable _ => 0x02
    | .ready _ _ => 0x03
    | .sending _ => 0x04
  st ||| (if r.late then 0x10 else 0x00) ||| (if r.discard then 0x20 else 0x00)

/-- The status byte of the slot at a place in the order of arrival; EMPTY is 0 (R90). -/
def Line.slotByte (l : Line) (place : Nat) : Byte := ((l.slots[place]?).map RxSlot.statusByte).getD 0

/-- The receiver byte of LINE_STATUS (R90). -/
def Receiver.code : Receiver → Byte
  | .off => 0x00
  | .listening => 0x01
  | .assembling _ _ => 0x02
  | .muted => 0x03

/-- The bytes held by the frame in progress (R90). -/
def Receiver.held : Receiver → Nat
  | .assembling bytes _ => bytes.length
  | .off | .listening | .muted => 0

/-- Whether the receiver is ASSEMBLING. -/
def Receiver.isAssembling : Receiver → Bool
  | .assembling _ _ => true
  | .off | .listening | .muted => false

/-- LDEn is asserted: a reply is being sent (R66). -/
def Line.lde (l : Line) : Bool := l.transmitter.isSome

/-- The level of a bit of a character: a start bit low, eight data bits with the least significant first,
a stop bit high (R66). -/
def characterBit (byte : Byte) (bit : Nat) : Bool :=
  if bit = 0 then false else if bit ≤ 8 then byte.getLsbD (bit - 1) else true

/-- The moment at which the first start bit of a reply began. -/
def Sending.begun (x : Sending) : Moment := x.endsAt - 13 * x.rate.charTicks

/-- The level of LTXn at a moment, true for high: the characters of the reply back to back while it is
being sent, and the idle level at all other times (R66). -/
def Line.ltx (l : Line) (now : Moment) : Bool :=
  match l.transmitter with
  | none => true
  | some x =>
    if now < x.begun ∨ x.endsAt ≤ now then true
    else
      let bit := (now - x.begun) / x.rate.bitTicks
      characterBit (byteAt x.frame (bit / 10)) (bit % 10)

/-- The result bytes of LINE_STATUS (R90). -/
def Line.statusBytes (n : LineNo) (l : Line) : List Byte :=
  num8 n.val ++ [l.mode.code, l.rate.code, l.window, l.receiver.code] ++ num8 l.receiver.held ++
    [yesNo l.lde, l.slotByte 0, l.slotByte 1] ++ l.counters.bytes

/-! ### The table arbiter -/

/-- The claimant after one in rotation order (R10, R11). -/
def Claimant.after : Claimant → Claimant
  | .line n => if n = 3 then .exec else .line (n + 1)
  | .exec => .supv
  | .supv => .sweep
  | .sweep => .capt
  | .capt => .line 0

/-- The first `n` claimants of a search that begins at `c`. -/
def Claimant.turns : Nat → Claimant → List Claimant
  | 0, _ => []
  | n + 1, c => c :: Claimant.turns n c.after

/-- Whether a claimant holds a claim (R10): a line with a WAITING slot, the executor with a request
that needs a grant, supervision with a due mark, a snapshot SWEEPING, a store with a page to
capture. -/
def State.claims (s : State) : Claimant → Bool
  | .line n => s.lines[n].slots.any RxSlot.isWaiting
  | .exec => s.port.executing.any fun r => r.req.needsGrant
  | .supv => s.supv.silenceMark || s.supv.graceMark
  | .sweep => s.snapshot.state == .sweeping
  | .capt => s.store.claim.isSome

/-- An L grant is under way: its result has not yet returned to its line (R12, R75). -/
def State.tableBusy (s : State) : Bool := s.lines.any fun l => l.slots.any RxSlot.isInTable

/-- The claimant the arbiter grants next, while the table is free: the first with a claim from the
rotation position on (R11). No claimant is granted before the port has gone to READY (R5, R13). -/
def State.granted (s : State) : Option Claimant :=
  if s.port.opened && !s.tableBusy then (Claimant.turns 8 s.rotation).find? s.claims else none

/-! ### The host port -/

/-- RDY is asserted: at least 64 free bytes in the request queue, and RESET_N high (R183). -/
def State.rdy (s : State) : Bool := !s.resetHeld && decide (s.port.requests.length ≤ 192)

/-- A count as a status byte: 255 and 256 are sent as FFh (R182). -/
def countByte (n : Nat) : Byte := if 255 ≤ n then 0xFF else BitVec.ofNat 8 n

/-- Whether the store is busy (R182). -/
def StoreState.busy : StoreState → Bool
  | .checkpoint | .aborting | .wiping => true
  | .start | .idle => false

/-- Byte 4 of STATUS_READ (R191). -/
def State.flagByte (s : State) : Byte :=
  yesNo s.notices.noteN ||| (s.snapshot.state.code <<< 1) ||| (yesNo s.store.state.busy <<< 3) |||
    (yesNo s.port.underrun <<< 4) ||| (s.port.cause.code <<< 5)

/-- The four status bytes (R182, R191). -/
def State.statusBytes (s : State) : List Byte :=
  [s.port.state.code, countByte s.port.requests.length, countByte (s.port.responses.length / 2),
   s.flagByte]

/-- Whether the port can take a response of any length: 64 free bytes (R185). -/
def Port.hasRoom (p : Port) : Bool := decide (p.responses.length + 64 ≤ Config.responseRoom)

end Sys2Proof.Machine
end

