-- ==== Sys2Proof/Machine/Ops.lean ====
section
/-! DEFINITION. The named operations that the commands share: records and the dirty flag, copy-before-
write, notices, the silence and grace lists, the low check and supply evaluation, the identity
index, freeing a slot, the receive slots of a line, and answering a request. The part has no
exception entry; its port fault is an operation of the host port (Machine/HostPort.lean). -/

namespace Sys2Proof.Machine

/-! ### Records -/

/-- Writes the record of a slot. -/
def State.setAccount (s : State) (i : Slot) (r : Record) : State :=
  { s with table := Sparse.set Record.free s.table i r }

/-- Changes the image fields of a slot. -/
def State.updateImage (s : State) (i : Slot) (f : AccountImage → AccountImage) : State :=
  s.setAccount i { s.account i with image := f (s.account i).image }

/-- Changes the state of an account (R6). -/
def State.setState (s : State) (i : Slot) (st : AccountState) : State :=
  s.updateImage i fun a => { a with state := st }

/-- Sets or clears SILENT. -/
def State.setSilent (s : State) (i : Slot) (v : Bool) : State :=
  s.setAccount i { s.account i with silent := v }

/-- Sets dirty when a field of the account image differs from its value before the grant (R4). -/
def State.settleDirty (s : State) (i : Slot) (before : AccountImage) : State :=
  if (s.account i).image = before then s else s.setAccount i { s.account i with dirty := true }

/-! ### Snapshot captures -/

/-- What a capture of a record puts into its shadow: nothing for a FREE slot (R150). -/
def Record.shadowFields (r : Record) : Option ShadowFields :=
  if r.image.state = .free then none
  else some
    { identity := r.image.identity
      tariffClass := r.image.tariffClass
      state := r.image.state
      suspended := r.image.suspended
      balance := r.image.balance
      consumption := r.image.consumption
      reportCount := r.image.reportCount }

/-- Writes the shadow of a slot and adds it to the totals (R150). -/
def Snapshot.capture (sn : Snapshot) (i : Slot) (r : Record) : Snapshot :=
  let shadows := Sparse.set Shadow.blank sn.shadows i { captured := true, fields := r.shadowFields }
  match r.shadowFields with
  | none => { sn with shadows := shadows }
  | some f =>
    { sn with
      shadows := shadows
      present := sn.present + 1
      consumptionSum := sn.consumptionSum + f.consumption.setWidth 48
      balanceSum := sn.balanceSum + f.balance.signExtend 48 }

/-- Captures a slot unless it has been captured (R151, R153). -/
def Snapshot.captureOnce (sn : Snapshot) (i : Slot) (r : Record) : Snapshot :=
  if (sn.shadow i).captured then sn else sn.capture i r

/-- Copy-before-write: while SWEEPING, an uncaptured slot is captured as it stands (R12, R152). -/
def State.copyBeforeWrite (s : State) (i : Slot) : State :=
  if s.snapshot.state = .sweeping then
    { s with snapshot := s.snapshot.captureOnce i (s.account i) }
  else s

/-! ### Notices -/

/-- Raises by one the count of every kind in a set (R133). -/
def Group.addKinds (g : Group) (ks : KindSet) : Group :=
  { g with count := Vector.ofFn fun k => g.count[k] + (if KindSet.has ks k then 1 else 0) }

/-- Lowers by one the count of every kind in a set (R133). -/
def Group.dropKinds (g : Group) (ks : KindSet) : Group :=
  { g with count := Vector.ofFn fun k => g.count[k] - (if KindSet.has ks k then 1 else 0) }

/-- A QUIET group that is eligible becomes RAISED (R135). -/
def Group.raise (g : Group) : Group :=
  if g.state = .quiet ∧ g.eligible then { g with state := .raised } else g

/-- Changes one group. -/
def Notices.update (n : Notices) (g : GroupNo) (f : Group → Group) : Notices :=
  { n with groups := n.groups.set g (f n.groups[g]) }

/-- Sets a kind in a record, counts it in the account's group and raises the group (R133, R135). -/
def State.setKind (s : State) (i : Slot) (k : NoticeKind) : State :=
  let r := s.account i
  if KindSet.has r.pending k.number then s
  else
    { s.setAccount i { r with pending := r.pending ||| k.bit } with
      notices := s.notices.update r.image.group fun g => (g.addKinds k.bit).raise }

/-- Clears the kinds of a set from a record and from its group's counts; no group changes state
(R133, R138, R141, R145). -/
def State.clearKinds (s : State) (i : Slot) (ks : KindSet) : State :=
  let r := s.account i
  { s.setAccount i { r with pending := r.pending &&& ~~~ks } with
    notices := s.notices.update r.image.group fun g => g.dropKinds (r.pending &&& ks) }

/-! ### The silence and grace lists -/

/-- A list without the entry of a slot; the rest keep their order (R118). -/
def withoutSlot (es : List TimedEntry) (i : Slot) : List TimedEntry :=
  es.filter fun e => e.slot != i

/-- Whether a slot heads a list. -/
def isHead (es : List TimedEntry) (i : Slot) : Bool :=
  match es with
  | [] => false
  | e :: _ => e.slot == i

/-- An account leaves the silence list; a mark set for it as the head is withdrawn (R119, R121). -/
def Supervision.leaveSilence (v : Supervision) (i : Slot) : Supervision :=
  { v with
    silence := withoutSlot v.silence i
    silenceMark := v.silenceMark && !isHead v.silence i }

/-- An account leaves the grace list; a mark set for it as the head is withdrawn (R121, R124). -/
def Supervision.leaveGrace (v : Supervision) (i : Slot) : Supervision :=
  { v with
    grace := withoutSlot v.grace i
    graceMark := v.graceMark && !isHead v.grace i }

/-- An account leaves any place it has in the silence list and joins the tail at the uptime (R118). -/
def Supervision.joinSilence (v : Supervision) (i : Slot) : Supervision :=
  let w := v.leaveSilence i
  { w with silence := w.silence ++ [{ slot := i, time := w.uptime }] }

/-- An account joins the tail of the grace list at the uptime (R58, R118). -/
def Supervision.joinGrace (v : Supervision) (i : Slot) : Supervision :=
  let w := v.leaveGrace i
  { w with grace := w.grace ++ [{ slot := i, time := w.uptime }] }

/-- Tests both heads: a due head sets its list's mark (R121). -/
def Supervision.test (v : Supervision) : Supervision :=
  { v with
    silenceMark := v.silenceMark || v.silenceDue
    graceMark := v.graceMark || v.graceDue }

/-- Changes the supervision unit. -/
def State.updateSupv (s : State) (f : Supervision → Supervision) : State :=
  { s with supv := f s.supv }

/-! ### The low check and supply evaluation -/

/-- The low check (R54). -/
def State.lowCheck (s : State) (i : Slot) : State :=
  let a := (s.account i).image
  if (s.tariff.effectiveLow a).toInt ≤ a.balance.toInt then
    s.updateImage i fun a => { a with lowArmed := true }
  else if a.lowArmed then
    (s.updateImage i fun a => { a with lowArmed := false }).setKind i .low
  else s

/-- Supply evaluation, at most one step (R56, R57, R58, R59). -/
def State.evaluate (s : State) (i : Slot) : State :=
  let a := (s.account i).image
  let c := s.tariff.classOf a
  match a.state with
  | .active =>
    if a.balance.toInt ≤ c.hold.toInt then
      if s.supv.gracePeriod = 0 then (s.setState i .held).setKind i .held
      else ((s.setState i .grace).updateSupv fun v => v.joinGrace i).setKind i .grace
    else s
  | .grace =>
    if c.hold.toInt < a.balance.toInt then
      (s.setState i .active).updateSupv fun v => v.leaveGrace i
    else s
  | .held =>
    if c.resume.toInt ≤ a.balance.toInt then (s.setState i .active).setKind i .resumed else s
  | .free | .closing => s

/-! ### The identity index -/

/-- The ways of a bucket in order. -/
def wayNumbers : List (Fin 4) := [0, 1, 2, 3]

/-- Writes one way of a bucket. -/
def Index.setWay (ix : Index) (b : Fin 256) (w : Fin 4) (e : Option IndexEntry) : Index :=
  { ix with buckets := Sparse.set Bucket.empty ix.buckets b ((ix.bucket b).set w e) }

/-- The way of its bucket that holds an identity (R32). -/
def Index.wayOf (ix : Index) (id : Identity) : Option (Fin 4) :=
  wayNumbers.find? fun w => ((ix.bucket (bucketOf id))[w]).any fun e => e.identity == id

/-- The lowest-numbered empty way of a bucket (R33). -/
def Index.emptyWay (ix : Index) (b : Fin 256) : Option (Fin 4) :=
  wayNumbers.find? fun w => ((ix.bucket b)[w]).isNone

/-- A spill entry is one of an identity and its bucket (R32). -/
def SpillEntry.isOf (id : Identity) (e : SpillEntry) : Bool :=
  e.bucket == bucketOf id && e.identity == id

/-- Lookup: the ways of the bucket, then the spill entries of that bucket (R32). -/
def Index.lookup (ix : Index) (id : Identity) : Option Slot :=
  match ix.wayOf id with
  | some w => ((ix.bucket (bucketOf id))[w]).map fun e => e.slot
  | none => (ix.spill.find? (SpillEntry.isOf id)).map fun e => e.slot

/-- Insertion: the lowest empty way, else the end of the spill list, else INDEX_FULL (R33). -/
def Index.insert? (ix : Index) (id : Identity) (slot : Slot) : Option Index :=
  let b := bucketOf id
  match ix.emptyWay b with
  | some w => some (ix.setWay b w (some { identity := id, slot := slot }))
  | none =>
    if ix.spill.length < Config.spillRoom then
      some { ix with spill := ix.spill ++ [{ identity := id, slot := slot, bucket := b }] }
    else none

/-- Removal: out of a way with promotion of the oldest spill entry of the bucket, or out of the spill
list (R35, R36). -/
def Index.remove (ix : Index) (id : Identity) : Index :=
  let b := bucketOf id
  match ix.wayOf id with
  | some w =>
    match ix.spill.find? fun e => e.bucket == b with
    | some e =>
      { ix.setWay b w (some { identity := e.identity, slot := e.slot }) with
        spill := ix.spill.eraseP fun e => e.bucket == b }
    | none => ix.setWay b w none
  | none => { ix with spill := ix.spill.eraseP (SpillEntry.isOf id) }

/-! ### Freeing a slot -/

/-- Frees a non-FREE slot: capture, index removal, both lists, pending kinds, record, occupancy
(R3, R23, R145). -/
def State.freeSlot (s : State) (i : Slot) : State :=
  let id := (s.account i).image.identity
  let s := s.copyBeforeWrite i
  let s := { s with index := s.index.remove id }
  let s := s.updateSupv fun v => (v.leaveSilence i).leaveGrace i
  let s := s.clearKinds i (BitVec.allOnes 7)
  let s := s.setAccount i { Record.free with dirty := true }
  { s with occupancy := s.occupancy - 1 }

/-! ### Meter lines -/

/-- Changes one line. -/
def State.updateLine (s : State) (n : LineNo) (f : Line → Line) : State :=
  { s with lines := s.lines.set n (f s.lines[n]) }

/-- Changes the counters of a line. -/
def Line.count (l : Line) (f : LineCounters → LineCounters) : Line :=
  { l with counters := f l.counters }

/-- Rises by `n` and stops at 65535 (R87). -/
def satAdd16 (v : Half) (n : Nat) : Half := BitVec.ofNat 16 (min 65535 (v.toNat + n))

/-- Changes the first slot of a list that meets a test; `none` empties it. -/
def updateFirst (p : RxSlot → Bool) (f : RxSlot → Option RxSlot) : List RxSlot → List RxSlot
  | [] => []
  | r :: rs =>
    if p r then
      match f r with
      | some r' => r' :: rs
      | none => rs
    else r :: updateFirst p f rs

/-- A READY slot becomes first in return order. -/
def RxSlot.makeFirst (r : RxSlot) : RxSlot :=
  match r.state with
  | .ready c _ => { r with state := .ready c .first }
  | .waiting | .inTable _ | .sending _ => r

/-- When no READY slot is first in return order, the one that is left becomes first (R79). -/
def rerank (slots : List RxSlot) : List RxSlot :=
  if slots.any RxSlot.isFirstReady then slots else slots.map RxSlot.makeFirst

/-- The place that the next slot to become READY takes: the last (R76, R85). -/
def lastOrder (slots : List RxSlot) : ReturnOrder :=
  if slots.any RxSlot.isReady then .second else .first

/-- Drops the READY slots that meet a test and counts each as late (R79). -/
def Line.dropReady (l : Line) (p : RxSlot → Bool) : Line :=
  let gone := fun r => RxSlot.isReady r && p r
  { l with
    slots := rerank (l.slots.filter fun r => !gone r)
    counters :=
      { l.counters with
        lateReplies := satAdd16 l.counters.lateReplies (l.slots.countP gone) } }

/-- The turnaround: two character times (R80). -/
def Line.turnaround (l : Line) : Nat := 2 * l.rate.charTicks

/-! ### Grants and requests -/

/-- After a grant the rotation position is the claimant after the one granted (R11). -/
def State.turn (s : State) (c : Claimant) : State := { s with rotation := c.after }

/-- The request in execution, when it is a given one and the part is in service (R178, R186). -/
def State.inExecution (s : State) (q : Req) : Option Request :=
  if s.port.opened then s.port.executing.filter fun r => r.req == q else none

/-- Ends a request: its response joins the response queue and no request is in execution (R186). -/
def State.finish (s : State) (r : Request) (a : Answer) : State :=
  { s with
    port :=
      { s.port with
        executing := none
        responses := s.port.responses ++ responseBytes r.tag r.req.code a } }

/-- Carries out a request inside one EXEC grant, if it is in execution and EXEC is granted; otherwise
the command has no effect (R10, R186, log 1). -/
def State.grantRequest (s : State) (q : Req) (work : List Byte → State → State × Answer) : State :=
  match s.inExecution q with
  | none => s
  | some r =>
    if s.granted = some .exec then
      let done := work r.params (s.turn .exec)
      done.1.finish r done.2
    else s

/-- Carries out a request that claims no table grant, if it is in execution (R186, log 1). -/
def State.directRequest (s : State) (q : Req) (work : List Byte → State → State × Answer) : State :=
  match s.inExecution q with
  | none => s
  | some r =>
    let done := work r.params s
    done.1.finish r done.2

/-- A request refused at a check: it changes nothing and carries no result bytes (R14, R193). -/
def State.refuse (s : State) (r : Result) : State × Answer := (s, .bare r)

/-- Checks 1 and 3 of R14 for a request that names a slot: the slot is in range and not FREE; `work`
goes on with the slot. -/
def State.onAccount (s : State) (slot : Option Slot) (work : Slot → State × Answer) :
    State × Answer :=
  match slot with
  | none => s.refuse .badParam
  | some i => if s.isFree i then s.refuse .noAccount else work i

end Sys2Proof.Machine
end

