-- ==== Sys2Proof/Machine/Accounts.lean ====
section
/-! DEFINITION. The requests on the account table (1.5) and on balances and suspension (3.4, 3.7). -/

namespace Sys2Proof.Machine

/-! ### ENROL (R15, R16) -/

/-- A slot parameter follows: bit 0 of the presence byte (R15). -/
def enrolSlotGiven (ps : List Byte) : Bool := (byteAt ps 12).getLsbD 0

/-- A low level follows: bit 1 of the presence byte (R15). -/
def enrolLowGiven (ps : List Byte) : Bool := (byteAt ps 12).getLsbD 1

/-- Check 1 of R15: the length agrees with the presence byte and bits 2..7 are clear. -/
def enrolLengthOk (ps : List Byte) : Bool :=
  ps.length == 13 + (if enrolSlotGiven ps then 2 else 0) + (if enrolLowGiven ps then 4 else 0) &&
    (byteAt ps 12 &&& 0xFC) == 0

/-- The slot named, if one is; `none` when it is named out of range (R15). -/
def enrolSlot (ps : List Byte) : Option (Option Slot) :=
  if enrolSlotGiven ps then (slotAt ps 13).map some else some none

/-- The low level override given, if one is (R15, R195). -/
def enrolLow (ps : List Byte) : Option Credit :=
  if enrolLowGiven ps then some (wordAt ps (if enrolSlotGiven ps then 15 else 13)) else none

/-- The slot an enrolment takes, or the result it is refused with (R8). -/
def State.chooseSlot (s : State) (named : Option Slot) : Except Result Slot :=
  match named with
  | some i => if s.isFree i then .ok i else .error .slotTaken
  | none =>
    match s.lowestFree with
    | some i => .ok i
    | none => .error .tableFull

/-- The record an enrolment writes, low armed apart (step 3 of R16). -/
def enrolImage (ps : List Byte) (c : ClassNo) (g : GroupNo) : AccountImage :=
  { AccountImage.free with
    state := .active
    identity := identityAt ps 0
    tariffClass := c
    group := g
    balance := wordAt ps 8
    lowOverride := enrolLow ps }

/-- Low armed at enrolment, by comparison alone (R16, R55). -/
def TariffUnit.armed (t : TariffUnit) (a : AccountImage) : AccountImage :=
  { a with lowArmed := decide ((t.effectiveLow a).toInt ≤ a.balance.toInt) }

/-- Removes the entry of an identity from the discovery list (R111). -/
def Discovery.remove (d : Discovery) (id : Identity) : Discovery :=
  { d with entries := d.entries.filter fun e => e.identity != id }

/-- What an ENROL that passes its checks does, in the order of R16. -/
def State.enrolAccount (s : State) (i : Slot) (ix : Index) (a : AccountImage) : State :=
  let before := s.account i
  let s := s.copyBeforeWrite i
  let s := { s with index := ix }
  let s := s.setAccount i
    { image := s.tariff.armed a, silent := false, pending := 0, dirty := before.dirty }
  let s := s.evaluate i
  let s := s.updateSupv fun v => v.joinSilence i
  let s := { s with discovery := s.discovery.remove a.identity }
  let s := { s with occupancy := s.occupancy + 1, highWater := max s.highWater (s.occupancy + 1) }
  s.settleDirty i before.image

/-- ENROL: the checks of R15 in order, then R16. -/
def enrolWork (ps : List Byte) (s : State) : State × Answer :=
  if !enrolLengthOk ps then s.refuse .badParam
  else if !validIdentity (identityAt ps 0) then s.refuse .badParam
  else
    match classAt ps 6, groupAt ps 7, enrolSlot ps with
    | some c, some g, some named =>
      if (s.index.lookup (identityAt ps 0)).isSome then s.refuse .duplicate
      else
        match s.chooseSlot named with
        | .error r => s.refuse r
        | .ok i =>
          match s.index.insert? (identityAt ps 0) i with
          | none => s.refuse .indexFull
          | some ix =>
            let t := s.enrolAccount i ix (enrolImage ps c g)
            (t, .ok (slotBytes i ++ [(t.account i).image.state.code]))
    | _, _, _ => s.refuse .badParam

/-- ENROL (R15, R16, R34). -/
def execEnrol (s : State) : Host.Outcome State Fault Refusal := .next (s.grantRequest .enrol enrolWork)

/-! ### Reading -/

/-- R17. -/
def accountReadWork (ps : List Byte) (s : State) : State × Answer :=
  s.onAccount (slotAt ps 0) fun i =>
    (s, .ok (accountBytes i (s.account i) (s.tariff.effectiveLow (s.account i).image)))

/-- ACCOUNT_READ (R17). -/
def execAccountRead (s : State) : Host.Outcome State Fault Refusal :=
  .next (s.grantRequest .accountRead accountReadWork)

/-- R18. -/
def findWork (ps : List Byte) (s : State) : State × Answer :=
  if !validIdentity (identityAt ps 0) then s.refuse .badParam
  else
    match s.index.lookup (identityAt ps 0) with
    | none => s.refuse .notFound
    | some i => (s, .ok (slotBytes i ++ [(s.account i).image.state.code]))

/-- FIND (R18). -/
def execFind (s : State) : Host.Outcome State Fault Refusal := .next (s.grantRequest .find findWork)

/-- R25. -/
def tableStatusWork (_ps : List Byte) (s : State) : State × Answer :=
  (s, .ok (num16 s.occupancy ++ num16 s.highWater ++
    ((s.lowestFree.map slotBytes).getD [0xFF, 0xFF]) ++ num16 (s.countIn .active) ++
    num16 (s.countIn .grace) ++ num16 (s.countIn .held) ++ num16 (s.countIn .closing) ++
    num8 s.index.spill.length))

/-- TABLE_STATUS (R25). -/
def execTableStatus (s : State) : Host.Outcome State Fault Refusal :=
  .next (s.grantRequest .tableStatus tableStatusWork)

/-- R26. -/
def highwaterResetWork (_ps : List Byte) (s : State) : State × Answer :=
  ({ s with highWater := s.occupancy }, .ok (num16 s.occupancy))

/-- HIGHWATER_RESET (R26). -/
def execHighwaterReset (s : State) : Host.Outcome State Fault Refusal :=
  .next (s.grantRequest .highwaterReset highwaterResetWork)

/-! ### Changing an account -/

/-- A change of one account that may be followed by supply evaluation: capture, change, the checks
that `after` runs, and the dirty flag (R12, R4). -/
def State.changeAccount (s : State) (i : Slot) (f : AccountImage → AccountImage)
    (after : State → State) : State :=
  let before := (s.account i).image
  (after ((s.copyBeforeWrite i).updateImage i f)).settleDirty i before

/-- The response byte of the resulting state (R19, R21, R62). -/
def State.stateAnswer (s : State) (i : Slot) : State × Answer :=
  (s, .ok [(s.account i).image.state.code])

/-- R19. -/
def setClassWork (ps : List Byte) (s : State) : State × Answer :=
  match classAt ps 2 with
  | none => s.refuse .badParam
  | some c =>
    s.onAccount (slotAt ps 0) fun i =>
      if (s.account i).image.state = .closing then s.refuse .wrongState
      else
        (s.changeAccount i (fun a => { a with tariffClass := c })
          fun t => t.evaluate i).stateAnswer i

/-- SET_CLASS (R19). -/
def execSetClass (s : State) : Host.Outcome State Fault Refusal :=
  .next (s.grantRequest .setClass setClassWork)

/-- Moves the counts of an account's pending kinds from its group to another, which is then tested;
the old group keeps its state (R20, R144). -/
def Notices.moveKinds (n : Notices) (old new : GroupNo) (ks : KindSet) : Notices :=
  (n.update old fun g => g.dropKinds ks).update new fun g => (g.addKinds ks).raise

/-- R20, for a group other than the account's own. -/
def State.moveGroup (s : State) (i : Slot) (g : GroupNo) : State :=
  let r := s.account i
  s.changeAccount i (fun a => { a with group := g })
    fun t => { t with notices := t.notices.moveKinds r.image.group g r.pending }

/-- R20. -/
def setGroupWork (ps : List Byte) (s : State) : State × Answer :=
  match groupAt ps 2 with
  | none => s.refuse .badParam
  | some g =>
    s.onAccount (slotAt ps 0) fun i =>
      if (s.account i).image.group = g then (s, .ok []) else (s.moveGroup i g, .ok [])

/-- SET_GROUP (R20, R144). -/
def execSetGroup (s : State) : Host.Outcome State Fault Refusal :=
  .next (s.grantRequest .setGroup setGroupWork)

/-- The level SET_LOW gives; the outer `none` is a length or presence byte that disagrees (R21). -/
def setLowLevel (ps : List Byte) : Option (Option Credit) :=
  if byteAt ps 2 = 0x00 ∧ ps.length = 3 then some none
  else if byteAt ps 2 = 0x01 ∧ ps.length = 7 then some (some (wordAt ps 3))
  else none

/-- R21; a CLOSING account is not evaluated, as `State.evaluate` has it. -/
def setLowWork (ps : List Byte) (s : State) : State × Answer :=
  match setLowLevel ps with
  | none => s.refuse .badParam
  | some level =>
    s.onAccount (slotAt ps 0) fun i =>
      (s.changeAccount i (fun a => { a with lowOverride := level })
        fun t => t.evaluate i).stateAnswer i

/-- SET_LOW (R21). -/
def execSetLow (s : State) : Host.Outcome State Fault Refusal :=
  .next (s.grantRequest .setLow setLowWork)

/-- R22. -/
def State.retireAccount (s : State) (i : Slot) : State :=
  s.changeAccount i (fun a => { a with state := .closing })
    fun t => (t.updateSupv fun v => (v.leaveSilence i).leaveGrace i).setKind i .closed

/-- R22. -/
def retireWork (ps : List Byte) (s : State) : State × Answer :=
  s.onAccount (slotAt ps 0) fun i =>
    if (s.account i).image.state = .closing then s.refuse .wrongState
    else (s.retireAccount i, .ok [])

/-- RETIRE (R22). -/
def execRetire (s : State) : Host.Outcome State Fault Refusal :=
  .next (s.grantRequest .retire retireWork)

/-- The final figures PURGE returns (R24). -/
def finalFigures (a : AccountImage) : List Byte :=
  bytes48 a.identity ++ [a.state.code] ++ bytes32 a.balance ++ bytes32 a.consumption

/-- R24. -/
def purgeWork (ps : List Byte) (s : State) : State × Answer :=
  s.onAccount (slotAt ps 0) fun i => (s.freeSlot i, .ok (finalFigures (s.account i).image))

/-- PURGE (R23, R24). -/
def execPurge (s : State) : Host.Outcome State Fault Refusal := .next (s.grantRequest .purge purgeWork)

/-! ### Balances and suspension -/

/-- R52, R53: the new balance, the low check, the evaluation (which leaves a CLOSING account). -/
def State.adjustAccount (s : State) (i : Slot) (sum : Int) : State :=
  s.changeAccount i (fun a => { a with balance := BitVec.ofInt 32 sum })
    fun t => (t.lowCheck i).evaluate i

/-- R52. -/
def adjustWork (ps : List Byte) (s : State) : State × Answer :=
  if wordAt ps 2 = 0 then s.refuse .badParam
  else
    s.onAccount (slotAt ps 0) fun i =>
      let sum := (s.account i).image.balance.toInt + (wordAt ps 2).toInt
      if inCreditRange sum then
        let t := s.adjustAccount i sum
        (t, .ok (bytes32 (t.account i).image.balance ++ [(t.account i).image.state.code]))
      else s.refuse .range

/-- ADJUST (R52, R53). -/
def execAdjust (s : State) : Host.Outcome State Fault Refusal :=
  .next (s.grantRequest .adjust adjustWork)

/-- R61. -/
def suspendWork (ps : List Byte) (s : State) : State × Answer :=
  s.onAccount (slotAt ps 0) fun i =>
    let a := (s.account i).image
    if a.state = .closing then s.refuse .wrongState
    else if a.suspended then (s, .ok [])
    else (s.changeAccount i (fun a => { a with suspended := true }) id, .ok [])

/-- SUSPEND (R61). -/
def execSuspend (s : State) : Host.Outcome State Fault Refusal :=
  .next (s.grantRequest .suspend suspendWork)

/-- R62; a CLOSING account whose flag is clear is left alone, and takes no capture. -/
def unsuspendWork (ps : List Byte) (s : State) : State × Answer :=
  s.onAccount (slotAt ps 0) fun i =>
    let a := (s.account i).image
    if a.state = .closing ∧ a.suspended = false then s.stateAnswer i
    else
      (s.changeAccount i (fun a => { a with suspended := false })
        fun t => t.evaluate i).stateAnswer i

/-- UNSUSPEND (R62). -/
def execUnsuspend (s : State) : Host.Outcome State Fault Refusal :=
  .next (s.grantRequest .unsuspend unsuspendWork)

end Sys2Proof.Machine
end

