-- ==== Sys2Proof/WellFormed.lean ====
section
/-! DEFINITION. Which commands are well formed: an UNKNOWN_TRANSACTION is one whose first byte names
none of the four transactions of R179. Every other operand is bounded by its type. -/

namespace Sys2Proof

/-- The transactions of R179, and the one whose first byte names none of them. -/
inductive SpiKind where
  | requestWrite | responseRead | statusRead | portFlush | unknown
  deriving DecidableEq, Repr

/-- The transaction that a first byte names (R179). -/
def SpiKind.ofFirst (first : Byte) : SpiKind :=
  if first = 0x01 then .requestWrite
  else if first = 0x02 then .responseRead
  else if first = 0x03 then .statusRead
  else if first = 0x04 then .portFlush
  else .unknown

/-- The check on a command's operands. -/
def Instr.wellFormed : Instr → Bool
  | .unknownTransaction first _ => SpiKind.ofFirst first == .unknown
  | .pinReset _ _ | .startUp | .secondEdge | .silenceExpiry | .graceExpiry
  | .frameCharacterReceived _ _ _ _ | .framingError _ _ _ | .frameGapTimeout _ _
  | .reportFrame _ _ _ | .contentionCharacter _ _ | .replyDeadline _ _ _ | .replyStart _ _
  | .replySent _ _ | .reportGrant _ | .sweepStep | .settingsPageCapture | .accountPageCapture
  | .pageEraseDone | .pageProgramDone | .pageVerifyDone _ | .wipePageEraseDone
  | .requestWrite _ | .responseRead _ | .statusRead _ | .portFlush _ | .executorTake
  | .overflowFaultResponse | .enrol | .accountRead | .find | .setClass | .setGroup | .setLow
  | .retire | .purge | .tableStatus | .highwaterReset | .adjust | .suspend | .unsuspend
  | .tariffStage | .tariffRead | .tariffCommit | .tariffDiscard | .setBand | .lineConfig
  | .lineMode | .lineStatus | .lineClear | .setUnknownPolicy | .discoveryTake | .discoveryClear
  | .setSilence | .setGrace | .setTime | .readTime | .groupConfig | .noticeFetch | .noticeAck
  | .noticeClear | .noticeEnable | .groupStatus | .snapshotTake | .snapshotRead | .snapshotTotals
  | .snapshotRelease | .checkpoint | .checkpointAbort | .storeStatus | .storeWipe | .partIdent
  | .partReset => true

end Sys2Proof
end

