-- ==== Sys2Proof/Machine/HostPort.lean ====
section
/-! DEFINITION. The host port (chapter 10): SPI transactions, the executor's taking of a request, port
faults, and PART_IDENT. -/

namespace Sys2Proof.Machine

/-- Changes the port. -/
def State.updatePort (s : State) (f : Port → Port) : State := { s with port := f s.port }

/-! ### SPI transactions (10.2) -/

/-- The port discards REQUEST_WRITE bytes: in FAULT, and in START after an OVERFLOW (R178, R180). -/
def Port.discards (p : Port) : Bool :=
  p.state == .fault || (p.state == .start && p.cause != .none)

/-- A byte meets a full request queue: it is dropped, and the port faults with OVERFLOW; in START the
port state stays START (R180). -/
def Port.overflow (p : Port) : Port :=
  { p with
    cause := .overflow
    faultResponse := true
    state := if p.state = .ready then .fault else p.state }

/-- One byte of a REQUEST_WRITE after the first (R180). -/
def Port.writeByte (p : Port) (b : Byte) : Port :=
  if p.discards then p
  else if p.requests.length < Config.requestRoom then { p with requests := p.requests ++ [b] }
  else p.overflow


/-- A flush of the port (R188, R178). A port that goes to READY is opened. -/
def Port.flush (p : Port) : Port :=
  { p with
    requests := []
    cause := .none
    faultResponse := false
    state := if p.state = .fault then .ready else p.state
    opened := p.opened || p.state == .fault }

/-- What a transaction under way does, none when the port ignores its rest (R179, R190). -/
def Spi.kind (x : Spi) : SpiKind := if x.ended then .unknown else SpiKind.ofFirst x.first

/-- The byte that MISO carries in the next byte time: the front of the response queue, 00h where it is
empty; the next status byte, 00h after the fourth; 00h in every other transaction (R179, R181,
R182). -/
def Port.nextMiso (p : Port) (x : Spi) : Byte :=
  match x.kind with
  | .responseRead => p.responses.headD 0x00
  | .statusRead => x.status.headD 0x00
  | .requestWrite | .portFlush | .unknown => 0x00

/-- The first bit of a byte has been sent: RESPONSE_READ removes the byte from its queue, or sets the
underrun flag where the queue is empty (R181). -/
def Port.firstBit (p : Port) (x : Spi) : Port :=
  match x.kind with
  | .responseRead =>
    { p with responses := p.responses.tail, underrun := p.underrun || p.responses.isEmpty }
  | .requestWrite | .statusRead | .portFlush | .unknown => p

/-- The eighth bit of a byte has been shifted: REQUEST_WRITE appends the byte received (R180), and the
fourth byte of STATUS_READ clears the underrun flag (R182). -/
def Port.eighthBit (p : Port) (x : Spi) (received : Byte) : Port :=
  match x.kind with
  | .requestWrite => p.writeByte received
  | .statusRead =>
    { p with
      spi := some { x with status := x.status.tail }
      underrun := p.underrun && x.status.length != 1 }
  | .responseRead | .portFlush | .unknown => p

/-- One byte time of the transaction under way, after the first byte (R179). -/
def Port.byteTime (p : Port) (received : Byte) : Port :=
  match p.spi with
  | none => p
  | some x =>
    let q := (p.firstBit x).eighthBit x received
    { q with miso := q.miso ++ [p.nextMiso x] }

/-- The bits of a byte that MISO gives first, most significant first (R179). -/
def leadingBits (b : Byte) (n : Nat) : List Bool := (List.range n).map fun i => b.getMsbD i

/-- CS_N rises after `n` bits of a byte, which is discarded; the bits that were sent stand in
`misoBits`, and a first bit sent has its effect (R179, R181). -/
def Port.endTransaction (p : Port) (n : Fin 8) : Port :=
  match p.spi with
  | none => p
  | some x =>
    { (if n = 0 then p else p.firstBit x) with
      spi := none
      misoBits := leadingBits (p.nextMiso x) n.val }

/-- The bytes of a piece of the transaction under way, and its end where the piece holds it (R179). -/
def Port.shift (p : Port) (received : List Byte) (ends : Option (Fin 8)) : Port :=
  let p := received.foldl Port.byteTime p
  match ends with
  | none => p
  | some n => p.endTransaction n

/-- CS_N has fallen and the first byte has been received: MISO gave 00h; STATUS_READ captures its four
bytes, and PORT_FLUSH acts (R179, R182, R188). -/
def State.beginTransaction (s : State) (first : Byte) : Port :=
  let p :=
    { s.port with
      spi := some { first := first, status := s.statusBytes, ended := false }
      miso := [0x00]
      misoBits := [] }
  if SpiKind.ofFirst first = .portFlush then p.flush else p

/-- A piece of the transaction that a first byte names: it begins with CS_N falling, or goes on with the
transaction under way; the port ignores every signal while a pin reset is held (R178, R179). -/
def State.spiPiece (s : State) (first : Byte) (piece : SpiPiece) : State :=
  if s.resetHeld then s
  else
    match s.port.spi, piece.opens with
    | none, true => { s with port := (s.beginTransaction first).shift piece.received piece.ends }
    | some x, false =>
      if x.first = first then s.updatePort fun p => p.shift piece.received piece.ends else s
    | none, false | some _, true => s

/-- REQUEST_WRITE (R180). -/
def execRequestWrite (piece : SpiPiece) (s : State) : Host.Outcome State Fault Refusal :=
  .next (s.spiPiece 0x01 piece)

/-- RESPONSE_READ (R181). -/
def execResponseRead (piece : SpiPiece) (s : State) : Host.Outcome State Fault Refusal :=
  .next (s.spiPiece 0x02 piece)

/-- STATUS_READ (R182). -/
def execStatusRead (piece : SpiPiece) (s : State) : Host.Outcome State Fault Refusal :=
  .next (s.spiPiece 0x03 piece)

/-- PORT_FLUSH: it acts on its first byte, and the bytes after it are ignored (R179, R188). -/
def execPortFlush (piece : SpiPiece) (s : State) : Host.Outcome State Fault Refusal :=
  .next (s.spiPiece 0x04 piece)

/-- UNKNOWN_TRANSACTION: nothing in the port changes and MISO gives 00h; a first byte that does name a
transaction is no such event (R179). -/
def execUnknownTransaction (first : Byte) (piece : SpiPiece) (s : State) :
    Host.Outcome State Fault Refusal :=
  .next (if SpiKind.ofFirst first = .unknown then s.spiPiece first piece else s)

/-! ### The executor (10.3, 10.4) -/

/-- The answer of a FAULT response: length 1 and the cause byte (R185, R187, R193). -/
def FaultCause.answer (c : FaultCause) : Answer where
  result := .fault
  bytes := [c.code]

/-- A port fault found in a header: FAULT at once, with a FAULT response that carries the tag and code
as received; the request's bytes stay in the queue (R185). -/
def Port.headerFault (p : Port) (tag code : Byte) (c : FaultCause) : Port :=
  { p with
    state := .fault
    cause := c
    responses := p.responses ++ responseBytes tag code c.answer }

/-- The executor looks at the front of the request queue: code, length, then whether the whole request
is present (R185, R192). -/
def Port.take (p : Port) : Port :=
  let code := byteAt p.requests 0
  let tag := byteAt p.requests 1
  let len := (byteAt p.requests 2).toNat
  match Req.ofCode code with
  | none => p.headerFault tag code .unknownCode
  | some q =>
    if len < q.lengths.1 ∨ q.lengths.2 < len then p.headerFault tag code .badLength
    else if p.requests.length < 3 + len then p
    else
      { p with
        requests := p.requests.drop (3 + len)
        executing := some { req := q, tag := tag, params := (p.requests.drop 3).take len } }

/-- The executor may look at a header (R185). -/
def Port.mayTake (p : Port) : Bool :=
  p.state == .ready && p.executing.isNone && decide (3 ≤ p.requests.length) && p.hasRoom

/-- EXECUTOR_TAKE (R185). -/
def execExecutorTake (s : State) : Host.Outcome State Fault Refusal :=
  .next (s.updatePort fun p => if p.mayTake then p.take else p)

/-- The FAULT response of an OVERFLOW may be queued (R187). -/
def Port.owesFaultResponse (p : Port) : Bool :=
  p.faultResponse && p.state != .start && p.executing.isNone &&
    decide (p.responses.length + 5 ≤ Config.responseRoom)

/-- OVERFLOW_FAULT_RESPONSE: tag 00h, code 00h (R187). -/
def execOverflowFaultResponse (s : State) : Host.Outcome State Fault Refusal :=
  .next (s.updatePort fun p =>
    if p.owesFaultResponse then
      { p with
        faultResponse := false
        responses := p.responses ++ responseBytes 0x00 0x00 FaultCause.overflow.answer }
    else p)

/-- R189. -/
def partIdentWork (_ps : List Byte) (s : State) : State × Answer :=
  (s, .ok (bytes16 0x1024 ++ [0x01] ++ num16 1024 ++ num8 66))

/-- PART_IDENT (R189). -/
def execPartIdent (s : State) : Host.Outcome State Fault Refusal :=
  .next (s.directRequest .partIdent partIdentWork)

end Sys2Proof.Machine
end

