-- ==== Sys2Proof/Machine/Lines.lean ====
section
/-! DEFINITION. The meter lines (chapter 4): reception, the reply window, the transmitter, and the line
requests. -/

namespace Sys2Proof.Machine

/-! ### Reception (4.3) -/

/-- The frame in progress has stood for more than two character times at a moment (R70). -/
def Line.stale (l : Line) (now : Moment) : Bool :=
  match l.receiver with
  | .assembling _ (.gap ended) => decide (ended + 2 * l.rate.charTicks < now)
  | .assembling _ (.character _) | .off | .listening | .muted => false

/-- A frame is abandoned as a framing error (R70). -/
def Line.abandon (l : Line) : Line :=
  { l with
    receiver := .listening
    counters := { l.counters with framingErrors := satInc16 l.counters.framingErrors } }

/-- Abandons a frame whose gap has passed (R70). -/
def Line.abandonStale (l : Line) (now : Moment) : Line := if l.stale now then l.abandon else l

/-- Whether a start bit is taken: after a low stop bit LRXn must have been high for a bit time (R70). -/
def Line.takesStart (l : Line) (highFor : Nat) : Bool :=
  !l.awaitHigh || decide (l.rate.bitTicks ≤ highFor)

/-- The start bit of a character: in LISTENING it begins a frame, between two characters of a frame it
begins the next one (R70). -/
def Line.startBit (l : Line) (start : Moment) (highFor : Nat) : Line :=
  let l := l.abandonStale start
  match l.receiver with
  | .listening =>
    if l.takesStart highFor then
      { l with receiver := .assembling [] (.character start), awaitHigh := false }
    else l
  | .assembling bytes (.gap _) => { l with receiver := .assembling bytes (.character start) }
  | .assembling _ (.character _) | .off | .muted => l

/-- The character that arrives since a start bit is of the frame in progress. -/
def Line.arriving (l : Line) (start : Moment) : Option (List Byte) :=
  match l.receiver with
  | .assembling bytes (.character begun) => if begun = start then some bytes else none
  | .assembling _ (.gap _) | .off | .listening | .muted => none

/-- The high stop bit of a character other than the twelfth of a frame (R70). -/
def Line.character (l : Line) (byte : Byte) (start : Moment) : Line :=
  match l.arriving start with
  | none => l
  | some bytes =>
    if bytes.length < 11 then
      { l with receiver := .assembling (bytes ++ [byte]) (.gap (start + l.rate.charTicks)) }
    else l

/-- FRAME_CHARACTER_RECEIVED (R70). -/
def execFrameCharacterReceived (n : LineNo) (byte : Byte) (start : Moment) (part : CharacterPart)
    (s : State) : Host.Outcome State Fault Refusal :=
  .next (s.updateLine n fun l =>
    match part with
    | .startBit highFor => l.startBit start highFor
    | .stopBit => l.character byte start)

/-- A stop bit found low: the frame of its character is abandoned (R70). While MUTED no frame is in
progress, and a low stop bit changes nothing (DESIGN CHOICE, log 27). -/
def Line.lowStop (l : Line) (start : Moment) : Line :=
  match l.arriving start with
  | none => l
  | some _ => { l.abandon with awaitHigh := true }

/-- FRAMING_ERROR (R70). -/
def execFramingError (n : LineNo) (start : Moment) (part : CharacterPart) (s : State) :
    Host.Outcome State Fault Refusal :=
  .next (s.updateLine n fun l =>
    match part with
    | .startBit highFor => l.startBit start highFor
    | .stopBit => l.lowStop start)

/-- FRAME_GAP_TIMEOUT (R70). -/
def execFrameGapTimeout (n : LineNo) (now : Moment) (s : State) :
    Host.Outcome State Fault Refusal :=
  .next (s.updateLine n fun l => l.abandonStale now)

/-- A good report takes an EMPTY slot, WAITING or (on an ECHO line) READY, or is an overrun
(R71, R73, R77, R85). -/
def Line.goodReport (l : Line) (frame : List Byte) (ended : Moment) : Line :=
  if l.slots.length < 2 then
    let state : RxState := if l.mode = .echo then .ready .test (lastOrder l.slots) else .waiting
    { l with
      slots := l.slots ++
        [{ state := state
           identity := identityAt frame 1
           sequence := byteAt frame 7
           usage := halfAt frame 8
           ended := ended
           deadline := ended + l.window.toNat * ticksPerMs
           late := false
           discard := false }]
      counters := { l.counters with goodReports := satInc16 l.counters.goodReports } }
  else l.count fun c => { c with overruns := satInc16 c.overruns }

/-- The checks on a complete frame (R71). -/
def Line.checkFrame (l : Line) (frame : List Byte) (ended : Moment) : Line :=
  if crc16 (frame.take 10) ≠ halfAt frame 10 then
    l.count fun c => { c with crcErrors := satInc16 c.crcErrors }
  else if byteAt frame 0 ≠ 0xD1 then
    l.count fun c => { c with kindErrors := satInc16 c.kindErrors }
  else l.goodReport frame ended

/-- The high stop bit of the twelfth character of a frame: the frame is complete and is checked (R70, R71). -/
def Line.twelfth (l : Line) (byte : Byte) (start : Moment) : Line :=
  match l.arriving start with
  | none => l
  | some bytes =>
    if bytes.length = 11 then
      { l with receiver := .listening }.checkFrame (bytes ++ [byte]) (start + l.rate.charTicks)
    else l

/-- REPORT_FRAME (R71, R73, R74, R77, R85). -/
def execReportFrame (n : LineNo) (byte : Byte) (start : Moment) (s : State) :
    Host.Outcome State Fault Refusal :=
  .next (s.updateLine n fun l => l.twelfth byte start)

/-- A character seen while MUTED (R72). Whatever its stop bit, it sets no wait for a high line: R70 gives
that wait beside an abandoned frame alone (DESIGN CHOICE, log 27). -/
def Line.contend (l : Line) (highFor : Nat) : Line :=
  match l.receiver with
  | .muted =>
    if l.takesStart highFor then
      { l with
        awaitHigh := false
        counters := { l.counters with contention := satInc16 l.counters.contention } }
    else l
  | .off | .listening | .assembling _ _ => l

/-- CONTENTION_CHARACTER (R72). -/
def execContentionCharacter (n : LineNo) (highFor : Nat) (s : State) :
    Host.Outcome State Fault Refusal :=
  .next (s.updateLine n fun l => l.contend highFor)

/-! ### The reply window (4.5) -/

/-- The place of a slot in the list of occupied slots (R73). -/
def slotIndex : SlotPlace → Nat
  | .older => 0
  | .younger => 1

/-- The deadline of a slot passes (R77, R79). -/
def Line.deadlinePasses (l : Line) (place : SlotPlace) (now : Moment) : Line :=
  match l.slots[slotIndex place]? with
  | none => l
  | some r =>
    if now < r.deadline then l
    else
      match r.state with
      | .waiting | .inTable _ => { l with slots := l.slots.set (slotIndex place) { r with late := true } }
      | .ready _ _ =>
        { l with
          slots := rerank (l.slots.eraseIdx (slotIndex place))
          counters := { l.counters with lateReplies := satInc16 l.counters.lateReplies } }
      | .sending _ => l

/-- REPLY_DEADLINE (R77, R79). -/
def execReplyDeadline (n : LineNo) (place : SlotPlace) (now : Moment) (s : State) :
    Host.Outcome State Fault Refusal :=
  .next (s.updateLine n fun l => l.deadlinePasses place now)

/-! ### The transmitter (4.6) -/

/-- A slot's reply starts (R74, R80). -/
def RxSlot.send (r : RxSlot) : RxSlot :=
  match r.state with
  | .ready c _ => { r with state := .sending c }
  | .waiting | .inTable _ | .sending _ => r

/-- The frame of a READY slot (R69). -/
def RxSlot.frame (r : RxSlot) : List Byte :=
  match r.state with
  | .ready c _ | .sending c => replyFrame r.identity r.sequence c
  | .waiting | .inTable _ => []

/-- The transmitter may start the reply of a slot (R80; the deadline is looked at by `dropReady`). The
receiver is ASSEMBLING from a frame's first start bit on, so no reply cuts a frame off (R72). -/
def Line.mayStart (l : Line) (r : RxSlot) (now : Moment) : Bool :=
  l.transmitter.isNone && l.mode != .disabled && !l.receiver.isAssembling &&
    decide (r.ended + l.turnaround ≤ now)

/-- Starts the first READY slot in return order, if it may start (R80). -/
def Line.startReply (l : Line) (now : Moment) : Line :=
  match l.slots.find? RxSlot.isFirstReady with
  | none => l
  | some r =>
    if l.mayStart r now then
      { l with
        slots := rerank (updateFirst RxSlot.isFirstReady (fun r => some r.send) l.slots)
        transmitter := some { frame := r.frame, rate := l.rate, endsAt := now + 13 * l.rate.charTicks }
        receiver := .muted }
    else l

/-- REPLY_START: READY slots whose deadline has passed are dropped as late, then the first READY slot
starts if it may (R79, R80). -/
def execReplyStart (n : LineNo) (now : Moment) (s : State) : Host.Outcome State Fault Refusal :=
  .next (s.updateLine n fun l =>
    (l.dropReady fun r => decide (r.deadline < now)).startReply now)

/-- The last stop bit of a reply ends (R81). -/
def Line.replyDone (l : Line) (now : Moment) : Line :=
  match l.transmitter with
  | none => l
  | some t =>
    if now < t.endsAt then l
    else
      { l with
        transmitter := none
        slots := updateFirst RxSlot.isSending (fun _ => none) l.slots
        receiver := if l.mode = .disabled then .off else .listening
        counters := { l.counters with repliesSent := satInc16 l.counters.repliesSent } }

/-- REPLY_SENT (R81). -/
def execReplySent (n : LineNo) (now : Moment) (s : State) : Host.Outcome State Fault Refusal :=
  .next (s.updateLine n fun l => l.replyDone now)

/-! ### Line requests (4.7, 4.9) -/

/-- R88, with its checks in order; all the parameter checks give the same result. -/
def lineConfigWork (ps : List Byte) (s : State) : State × Answer :=
  match lineAt ps 0, Rate.ofCode (byteAt ps 1) with
  | some n, some rate =>
    let window := byteAt ps 2
    if window.toNat < 5 ∨ 250 < window.toNat ∨ (rate = .r2400 ∧ window.toNat < 9) then
      s.refuse .badParam
    else if s.lines[n].mode ≠ .disabled then s.refuse .lineActive
    else (s.updateLine n fun l => { l with rate := rate, window := window }, .ok [])
  | _, _ => s.refuse .badParam

/-- LINE_CONFIG (R88). -/
def execLineConfig (s : State) : Host.Outcome State Fault Refusal :=
  .next (s.directRequest .lineConfig lineConfigWork)

/-- What entering DISABLED leaves of a slot: WAITING and READY are emptied, IN_TABLE is marked for
discard, SENDING completes (R83). -/
def RxSlot.disable (r : RxSlot) : Option RxSlot :=
  match r.state with
  | .waiting | .ready _ _ => none
  | .inTable _ => some { r with discard := true }
  | .sending _ => some r

/-- Entering DISABLED (R83). -/
def Line.enterDisabled (l : Line) : Line :=
  { l with
    mode := .disabled
    receiver := .off
    awaitHigh := false
    slots := l.slots.filterMap RxSlot.disable }

/-- A change of mode (R83, R86, R89). -/
def Line.setMode (l : Line) (m : LineMode) : Line :=
  if m = l.mode then l
  else if m = .disabled then l.enterDisabled
  else if l.mode = .disabled then
    { l with mode := m, receiver := if l.lde then .muted else .listening }
  else { l with mode := m }

/-- R89. -/
def lineModeWork (ps : List Byte) (s : State) : State × Answer :=
  match lineAt ps 0, LineMode.ofCode (byteAt ps 1) with
  | some n, some m => (s.updateLine n fun l => l.setMode m, .ok [s.lines[n].mode.code])
  | _, _ => s.refuse .badParam

/-- LINE_MODE (R83, R86, R89). -/
def execLineMode (s : State) : Host.Outcome State Fault Refusal :=
  .next (s.directRequest .lineMode lineModeWork)

/-- R90. -/
def lineStatusWork (ps : List Byte) (s : State) : State × Answer :=
  match lineAt ps 0 with
  | none => s.refuse .badParam
  | some n => (s, .ok (s.lines[n].statusBytes n))

/-- LINE_STATUS (R90). -/
def execLineStatus (s : State) : Host.Outcome State Fault Refusal :=
  .next (s.directRequest .lineStatus lineStatusWork)

/-- R91. -/
def lineClearWork (ps : List Byte) (s : State) : State × Answer :=
  match lineAt ps 0 with
  | none => s.refuse .badParam
  | some n =>
    (s.updateLine n fun l => { l with counters := .zero }, .ok s.lines[n].counters.bytes)

/-- LINE_CLEAR (R91). -/
def execLineClear (s : State) : Host.Outcome State Fault Refusal :=
  .next (s.directRequest .lineClear lineClearWork)

end Sys2Proof.Machine
end

