-- ==== Sys2Proof/Machine/NoticeRequests.lean ====
section
/-! DEFINITION. The requests of the notice controller (chapter 7). -/

namespace Sys2Proof.Machine

/-- Changes one group of the part. -/
def State.updateGroup (s : State) (g : GroupNo) (f : Group → Group) : State :=
  { s with notices := s.notices.update g f }

/-- R142. -/
def groupConfigWork (ps : List Byte) (s : State) : State × Answer :=
  match groupAt ps 0, kindsAt ps 1, Priority.ofCode (byteAt ps 2) with
  | some g, some mask, some priority =>
    (s.updateGroup g fun x => { x with mask := mask, priority := priority }.raise, .ok [])
  | _, _, _ => s.refuse .badParam

/-- GROUP_CONFIG (R142). -/
def execGroupConfig (s : State) : Host.Outcome State Fault Refusal :=
  .next (s.grantRequest .groupConfig groupConfigWork)

/-- A RAISED group that is fetched becomes SERVED (R138). -/
def Group.serve (g : Group) : Group := if g.state = .raised then { g with state := .served } else g

/-- The response of a fetch that finds an account (R138, R195). -/
def fetchBytes (g : GroupNo) (i : Slot) (a : AccountImage) (kinds : KindSet) (freed : Bool) :
    List Byte :=
  num8 g.val ++ slotBytes i ++ bytes48 a.identity ++ [a.state.code] ++ bytes32 a.balance ++
    bytes32 a.consumption ++ [kindByte kinds, yesNo freed]

/-- A fetch from group `g` that finds the account in slot `i` (R138, R139). -/
def State.fetchAccount (s : State) (g : GroupNo) (i : Slot) : State × Answer :=
  let r := s.account i
  let kinds := r.pending &&& s.notices.groups[g].mask
  let freed := KindSet.has kinds NoticeKind.closed.number
  let t := s.copyBeforeWrite i
  let t := t.clearKinds i kinds
  let t := t.updateGroup g Group.serve
  let t := if freed then t.freeSlot i else t
  (t, .ok (fetchBytes g i r.image kinds freed))

/-- A fetch from a chosen group (R138). -/
def State.fetchFrom (s : State) (g : GroupNo) : State × Answer :=
  match s.fetchSlot g with
  | some i => s.fetchAccount g i
  | none => (s.updateGroup g Group.serve, { result := .none, bytes := num8 g.val })

/-- R137: FFh chooses among the RAISED groups. -/
def noticeFetchWork (ps : List Byte) (s : State) : State × Answer :=
  if byteAt ps 0 = 0xFF then
    match s.notices.anyGroup with
    | some g => s.fetchFrom g
    | none => (s, { result := .none, bytes := [0xFF] })
  else
    match groupAt ps 0 with
    | some g => s.fetchFrom g
    | none => s.refuse .badParam

/-- NOTICE_FETCH (R137, R138, R139). -/
def execNoticeFetch (s : State) : Host.Outcome State Fault Refusal :=
  .next (s.grantRequest .noticeFetch noticeFetchWork)

/-- An acknowledge: QUIET, then tested at once (R140). -/
def Group.acknowledge (g : Group) : Group :=
  if g.state = .quiet then g else { g with state := .quiet }.raise

/-- R140. -/
def noticeAckWork (ps : List Byte) (s : State) : State × Answer :=
  match groupAt ps 0 with
  | none => s.refuse .badParam
  | some g =>
    let t := s.updateGroup g Group.acknowledge
    (t, .ok [t.notices.groups[g].state.code])

/-- NOTICE_ACK (R140). -/
def execNoticeAck (s : State) : Host.Outcome State Fault Refusal :=
  .next (s.grantRequest .noticeAck noticeAckWork)

/-- R141. -/
def noticeClearWork (ps : List Byte) (s : State) : State × Answer :=
  match kindsAt ps 2 with
  | none => s.refuse .badParam
  | some ks =>
    s.onAccount (slotAt ps 0) fun i =>
      let cleared := (s.account i).pending &&& ks
      if cleared = 0 then (s, .ok [0x00])
      else ((s.copyBeforeWrite i).clearKinds i ks, .ok [kindByte cleared])

/-- NOTICE_CLEAR (R141). -/
def execNoticeClear (s : State) : Host.Outcome State Fault Refusal :=
  .next (s.grantRequest .noticeClear noticeClearWork)

/-- R136. -/
def noticeEnableWork (ps : List Byte) (s : State) : State × Answer :=
  let set (b : Bool) : State × Answer :=
    ({ s with notices := { s.notices with enable := b } }, .ok [yesNo s.notices.enable])
  if byteAt ps 0 = 0x00 then set false
  else if byteAt ps 0 = 0x01 then set true
  else s.refuse .badParam

/-- NOTICE_ENABLE (R136). -/
def execNoticeEnable (s : State) : Host.Outcome State Fault Refusal :=
  .next (s.directRequest .noticeEnable noticeEnableWork)

/-- The result bytes of GROUP_STATUS (R143). -/
def Group.statusBytes (n : GroupNo) (g : Group) : List Byte :=
  num8 n.val ++ [g.state.code, kindByte g.mask, g.priority.code] ++
    kindNumbers.flatMap fun k => num16 g.count[k]

/-- R143. -/
def groupStatusWork (ps : List Byte) (s : State) : State × Answer :=
  match groupAt ps 0 with
  | none => s.refuse .badParam
  | some g => (s, .ok (s.notices.groups[g].statusBytes g))

/-- GROUP_STATUS (R143). -/
def execGroupStatus (s : State) : Host.Outcome State Fault Refusal :=
  .next (s.grantRequest .groupStatus groupStatusWork)

end Sys2Proof.Machine
end

