-- ==== Sys2Proof/Machine/Reports.lean ====
section
/-! DEFINITION. What one report grant does (chapter 5), and the requests of the discovery list. -/

namespace Sys2Proof.Machine

/-! ### Known accounts -/

/-- An open account joins the tail of the silence list; SILENT becomes no in every state
(step 7 of R101, steps 3 and 4 of R99, R102). -/
def State.rejoinSilence (s : State) (i : Slot) : State :=
  let st := (s.account i).image.state
  let s := if st = .closing ∨ st = .free then s else s.updateSupv fun v => v.joinSilence i
  s.setSilent i false

/-- The last-report fields of a report, at the calendar second of the grant (R93). -/
def AccountImage.heard (a : AccountImage) (line : LineNo) (calendar : Word) : AccountImage :=
  { a with lastLine := some line, lastTime := some calendar }

/-- Debit and consumption of a report at the price of the current band (R50, R51). -/
def TariffUnit.charge (t : TariffUnit) (usage : Half) (a : AccountImage) : AccountImage :=
  { a with
    balance := debited a.balance (debitOf usage (t.classOf a).price[t.band])
    consumption := a.consumption + usage.setWidth 32 }

/-- The gap count and the GAP notice (R100). -/
def State.recordGap (s : State) (i : Slot) : State :=
  (s.updateImage i fun a => { a with gapCount := satInc8 a.gapCount }).setKind i .gap

/-- A report taken, in the order of R101; evaluation leaves a CLOSING account alone (R105). -/
def State.takeReport (s : State) (i : Slot) (line : LineNo) (sequence : Byte) (usage : Half)
    (gap : Bool) : State :=
  let before := (s.account i).image
  let s := s.copyBeforeWrite i
  let s := s.updateImage i fun a =>
    { a.heard line s.supv.calendar with
      lastSequence := some sequence
      reportCount := satInc16 a.reportCount }
  let s := if gap then s.recordGap i else s
  let s := s.updateImage i (s.tariff.charge usage)
  let s := s.lowCheck i
  let s := s.evaluate i
  let s := s.rejoinSilence i
  s.settleDirty i before

/-- Raises the duplicate count of a line (R93, R99). -/
def State.countDuplicate (s : State) (line : LineNo) : State :=
  s.updateLine line fun l => l.count fun c => { c with duplicates := satInc16 c.duplicates }

/-- A duplicate, in the order of R99. -/
def State.duplicateReport (s : State) (i : Slot) (line : LineNo) : State :=
  let before := (s.account i).image
  let s := s.copyBeforeWrite i
  let s := s.updateImage i fun a => a.heard line s.supv.calendar
  let s := s.rejoinSilence i
  let s := s.countDuplicate line
  s.settleDirty i before

/-- A report of a known account (R98 to R105). -/
def State.knownReport (s : State) (i : Slot) (line : LineNo) (sequence : Byte) (usage : Half) :
    State :=
  match sequenceCase (s.account i).image.lastSequence sequence with
  | .duplicate => s.duplicateReport i line
  | .first | .successor => s.takeReport i line sequence usage false
  | .gap => s.takeReport i line sequence usage true

/-! ### Unknown meters -/

/-- A report of a listed meter seen again (R110, first row). -/
def DiscoveryEntry.seen (e : DiscoveryEntry) (sequence : Byte) : DiscoveryEntry :=
  { e with sightings := satInc8 e.sightings, lastSequence := sequence }

/-- An unknown report of a valid identity reaches the discovery list (R110). -/
def Discovery.sight (d : Discovery) (id : Identity) (line : LineNo) (calendar : Word)
    (sequence : Byte) : Discovery :=
  if d.entries.any fun e => e.identity == id then
    { d with entries := d.entries.map fun e => if e.identity = id then e.seen sequence else e }
  else if d.entries.length < Config.discoveryRoom then
    { d with
      entries := d.entries ++
        [{ identity := id, line := line, firstSeen := calendar, sightings := 1,
           lastSequence := sequence }] }
  else { d with overflow := satInc16 d.overflow }

/-- A report whose identity is not found (R95). -/
def State.unknownReport (s : State) (line : LineNo) (id : Identity) (sequence : Byte) : State :=
  let s := s.updateLine line fun l =>
    l.count fun c => { c with unknownReports := satInc16 c.unknownReports }
  if validIdentity id then
    { s with discovery := s.discovery.sight id line s.supv.calendar sequence }
  else s

/-- The work of a report grant and its result: reply content, or the no-reply mark (R94, R106). -/
def State.handleReport (s : State) (line : LineNo) (id : Identity) (sequence : Byte)
    (usage : Half) : State × Option ReplyContent :=
  match s.index.lookup id with
  | some i =>
    let t := s.knownReport i line sequence usage
    (t, some (t.tariff.replyContent (t.account i).image))
  | none => (s.unknownReport line id sequence, s.discovery.policy.result)

/-! ### The grant -/

/-- A WAITING slot is granted and stands IN_TABLE with the result that its grant composed (R74,
R106). -/
def RxSlot.grant (result : Option ReplyContent) (r : RxSlot) : RxSlot :=
  { r with state := .inTable result }

/-- What stands to be returned to an IN_TABLE slot; the no-reply mark for any other. -/
def RxSlot.result (r : RxSlot) : Option ReplyContent :=
  match r.state with
  | .inTable result => result
  | .waiting | .ready _ _ | .sending _ => none

/-- The result returns to the line: the first row of R76 that applies. A DISABLED line sends no reply
(R82, R83). -/
def Line.takeResult (l : Line) : Line :=
  match l.slots.find? RxSlot.isInTable with
  | none => l
  | some r =>
    let emptied := { l with slots := updateFirst RxSlot.isInTable (fun _ => none) l.slots }
    if r.discard ∨ l.mode = .disabled then emptied
    else
      match r.result with
      | none => emptied
      | some c =>
        if l.mode = .monitor then emptied
        else if r.late then
          emptied.count fun k => { k with lateReplies := satInc16 k.lateReplies }
        else
          { l with
            slots := updateFirst RxSlot.isInTable
              (fun r => some { r with state := .ready c (lastOrder l.slots) }) l.slots }

/-- A grant of the table to a line for its oldest WAITING report: the report is handled, and the slot
stands IN_TABLE with the result (R75, R93). -/
def State.grantReport (s : State) (n : LineNo) : State :=
  match s.lines[n].slots.find? RxSlot.isWaiting with
  | none => s
  | some r =>
    let done := (s.turn (.line n)).handleReport n r.identity r.sequence r.usage
    done.1.updateLine n fun l =>
      { l with slots := updateFirst RxSlot.isWaiting (fun r => some (r.grant done.2)) l.slots }

/-- REPORT_GRANT: the grant with its table work, or the return of its result (R75, R76, R93 to
R106). -/
def execReportGrant (grant : LineGrant) (s : State) : Host.Outcome State Fault Refusal :=
  .next
    (match grant with
    | .work n => if s.granted = some (.line n) then s.grantReport n else s
    | .result n => s.updateLine n Line.takeResult)

/-! ### Requests of the discovery list -/

/-- R97. -/
def setUnknownPolicyWork (ps : List Byte) (s : State) : State × Answer :=
  match UnknownPolicy.ofCode (byteAt ps 0) with
  | none => s.refuse .badParam
  | some p =>
    ({ s with discovery := { s.discovery with policy := p } }, .ok [s.discovery.policy.code])

/-- SET_UNKNOWN_POLICY (R97). -/
def execSetUnknownPolicy (s : State) : Host.Outcome State Fault Refusal :=
  .next (s.grantRequest .setUnknownPolicy setUnknownPolicyWork)

/-- R112. -/
def discoveryTakeWork (_ps : List Byte) (s : State) : State × Answer :=
  match s.discovery.entries with
  | [] => s.refuse .none
  | e :: es =>
    ({ s with discovery := { s.discovery with entries := es } },
      .ok (bytes48 e.identity ++ num8 e.line.val ++ bytes32 e.firstSeen ++
        [e.sightings, e.lastSequence] ++ num8 es.length ++ bytes16 s.discovery.overflow))

/-- DISCOVERY_TAKE (R112). -/
def execDiscoveryTake (s : State) : Host.Outcome State Fault Refusal :=
  .next (s.grantRequest .discoveryTake discoveryTakeWork)

/-- R113. -/
def discoveryClearWork (_ps : List Byte) (s : State) : State × Answer :=
  ({ s with discovery := { s.discovery with entries := [], overflow := 0 } },
    .ok (num8 s.discovery.entries.length ++ bytes16 s.discovery.overflow))

/-- DISCOVERY_CLEAR (R113). -/
def execDiscoveryClear (s : State) : Host.Outcome State Fault Refusal :=
  .next (s.grantRequest .discoveryClear discoveryClearWork)

end Sys2Proof.Machine
end

