-- ==== Sys2Proof/Machine/Retention.lean ====
section
/-! DEFINITION. The retention store in service: capturing and writing pages, checkpoints, abort, wipe
and status (9.2 to 9.5). -/

namespace Sys2Proof.Machine

/-! ### Page content -/

/-- An account image as it is written into a page (R161). -/
def AccountImage.stored (a : AccountImage) : StoredImage where
  state := a.state
  identity := a.identity
  suspended := a.suspended
  tariffClass := BitVec.ofNat 8 a.tariffClass.val
  group := BitVec.ofNat 8 a.group.val
  balance := a.balance
  consumption := a.consumption
  lowOverride := a.lowOverride
  lowArmed := a.lowArmed
  lastSequence := a.lastSequence
  lastLine := a.lastLine.map fun l => BitVec.ofNat 8 l.val
  lastTime := a.lastTime
  reportCount := a.reportCount
  gapCount := a.gapCount

/-- The settings as they stand (R162). -/
def State.settings (s : State) : Settings where
  live := s.tariff.live
  band := s.tariff.band
  gracePeriod := s.supv.gracePeriod
  silenceLimit := s.supv.silenceLimit
  policy := s.discovery.policy
  groups := s.notices.groups.map fun g => (g.mask, g.priority)
  lines := s.lines.map fun l => (l.rate, l.window)

/-- The sixteen images of an account page (R161). -/
def State.pageImages (s : State) (k : Fin 64) : Vector StoredImage 16 :=
  Vector.ofFn fun j => (s.account (pageSlot k j)).image.stored

/-- The places of an account page. -/
def pagePlaces : List (Fin 16) := List.finRange 16

/-- An account page holds at least one dirty slot (R167). -/
def State.pageDirty (s : State) (k : Fin 64) : Bool :=
  pagePlaces.any fun j => (s.account (pageSlot k j)).dirty

/-- The account pages in ascending order. -/
def allPages : List (Fin 64) := List.finRange 64

/-- The account page that the next CAPT grant chooses (R167). -/
def State.nextPage (s : State) : Option (Fin 64) :=
  match s.store.mode with
  | .full => allPages.find? fun k => k.val + 2 == s.store.cursor
  | .dirty =>
    allPages.find? fun k =>
      decide (s.store.cursor ≤ k.val + 2) && (s.pageDirty k || s.store.rewrite.contains k)

/-- The page number of an account page (R160). -/
def accountPage (k : Fin 64) : Fin 66 := ⟨k.val + 2, by omega⟩

/-- The account page of a page number, if it is one (R160). -/
def pageIndex (p : Fin 66) : Option (Fin 64) := if p.val < 2 then none else below 64 (p.val - 2)

/-! ### The rewrite set -/

/-- An account page joins the rewrite set (R164). -/
def Store.joinRewrite (st : Store) (k : Fin 64) : Store :=
  { st with rewrite := allPages.filter fun j => j == k || st.rewrite.contains j }

/-- An account page leaves the rewrite set (R164). -/
def Store.leaveRewrite (st : Store) (k : Fin 64) : Store :=
  { st with rewrite := st.rewrite.filter fun j => j != k }

/-! ### Writing a page (R165) -/

/-- A page in the latch begins its erase: it is the page in progress, and no CAPT claim stands. -/
def Store.beginWrite (st : Store) (page : Fin 66) (content : Page) : Store :=
  { st with
    latch := content
    inProgress := some { page := page, phase := .erasing }
    claim := none }

/-- The header is prepared in the latch and its write begins (R168). -/
def Store.prepareHeader (st : Store) (calendar : Word) : Store :=
  let figures : HeaderFigures :=
    { pagesWritten := st.pagesWritten, pagesFailing := st.verifyFailures, completion := calendar }
  st.beginWrite 0 (.written (.header figures) 0 st.generation true)

/-- The settings page is captured (R167). -/
def State.captureSettings (s : State) : State :=
  { s with
    store := s.store.beginWrite 1 (.written (.settings s.settings) 1 s.store.generation true) }

/-- SETTINGS_PAGE_CAPTURE (R167). -/
def execSettingsPageCapture (s : State) : Host.Outcome State Fault Refusal :=
  .next
    (if s.granted = some .capt ∧ s.store.claim = some .settings then
      (s.turn .capt).captureSettings
    else s)

/-- Clears the dirty flags of the slots of an account page (R167). -/
def State.cleanPage (s : State) (k : Fin 64) : State :=
  pagePlaces.foldl
    (fun t j => t.setAccount (pageSlot k j) { t.account (pageSlot k j) with dirty := false }) s

/-- An account page is captured (R167). -/
def State.capturePage (s : State) (k : Fin 64) : State :=
  let content := Page.written (.account (s.pageImages k)) (k.val + 2) s.store.generation true
  let t := s.cleanPage k
  { t with store := { t.store.beginWrite (accountPage k) content with cursor := k.val + 3 } }

/-- ACCOUNT_PAGE_CAPTURE; where no page is left to write, the header is prepared (R167, R168). -/
def execAccountPageCapture (s : State) : Host.Outcome State Fault Refusal :=
  .next
    (if s.granted = some .capt ∧ s.store.claim = some .account then
      let t := s.turn .capt
      match t.nextPage with
      | some k => t.capturePage k
      | none => { t with store := t.store.prepareHeader t.supv.calendar }
    else s)

/-- A checkpoint or an abort has a page of it in a phase (R165). -/
def Store.writing (st : Store) (phase : WritePhase) : Option (Fin 66) :=
  if st.state = .checkpoint ∨ st.state = .aborting then
    (st.inProgress.filter fun w => w.phase == phase).map fun w => w.page
  else none

/-- Changes the store. -/
def State.updateStore (s : State) (f : Store → Store) : State := { s with store := f s.store }

/-- The erase of a page ends and its program begins (R165). -/
def Store.eraseDone (st : Store) : Store :=
  match st.writing .erasing with
  | some p =>
    { st with
      array := st.array.set p .erased
      inProgress := some { page := p, phase := .programming } }
  | none => st

/-- PAGE_ERASE_DONE (R165). -/
def execPageEraseDone (s : State) : Host.Outcome State Fault Refusal :=
  .next (s.updateStore Store.eraseDone)

/-- The program of a page ends and its verify begins; settings and account pages are counted
(R165). -/
def Store.programDone (st : Store) : Store :=
  match st.writing .programming with
  | some p =>
    { st with
      array := st.array.set p st.latch
      pagesWritten := if p = 0 then st.pagesWritten else st.pagesWritten + 1
      inProgress := some { page := p, phase := .verifying } }
  | none => st

/-- PAGE_PROGRAM_DONE (R165). -/
def execPageProgramDone (s : State) : Host.Outcome State Fault Refusal :=
  .next (s.updateStore Store.programDone)

/-- A page whose CRC is or is not good. -/
def Page.withCrc (p : Page) (good : Bool) : Page :=
  match p with
  | .written body number generation _ => .written body number generation good
  | .erased => .erased
  | .damaged => .damaged

/-- A verify that does not match: it is counted, an account page joins the rewrite set, and the page
may fail acceptance later, as `reads` says (R165, log 10); a header that failed its verify is
unreadable at the next start-up (R168). -/
def Store.verifyFailed (st : Store) (p : Fin 66) (reads : Bool) : Store :=
  let st :=
    { st with
      verifyFailures := st.verifyFailures + 1
      array := st.array.set p (st.array[p].withCrc (reads && p != 0)) }
  match pageIndex p with
  | some k => st.joinRewrite k
  | none => st

/-- A verify that matches: an account page leaves the rewrite set (R165). -/
def Store.verifyPassed (st : Store) (p : Fin 66) : Store :=
  match pageIndex p with
  | some k => st.leaveRewrite k
  | none => st

/-- The figures of a header in the latch (R168). -/
def Page.figures (p : Page) (otherwise : HeaderFigures) : HeaderFigures :=
  match p with
  | .written (.header f) _ _ _ => f
  | .written (.settings _) _ _ _ | .written (.account _) _ _ _ | .erased | .damaged => otherwise

/-- The checkpoint is complete (R168). -/
def Store.complete (st : Store) : Store :=
  { st with
    headerGeneration := st.generation
    headerFigures := st.latch.figures st.headerFigures
    state := .idle
    lastResult := if st.verifyFailures = 0 then .complete else .completeWithFailures }

/-- What follows the end of a page's verify: an abort ends, the checkpoint completes after its header,
the header is prepared after page 65, or CAPT claims again (R167, R168, R170). -/
def Store.afterVerify (st : Store) (p : Fin 66) (calendar : Word) : Store :=
  let st := { st with inProgress := none }
  if st.state = .aborting then { st with state := .idle, lastResult := .aborted }
  else if p = 0 then st.complete
  else if 66 ≤ st.cursor then st.prepareHeader calendar
  else { st with claim := some .account }

/-- The verify of a page ends (R165). -/
def State.verifyDone (s : State) (readBack : ReadBack) : State :=
  match s.store.writing .verifying with
  | none => s
  | some p =>
    match readBack with
    | .matched => s.updateStore fun st => (st.verifyPassed p).afterVerify p s.supv.calendar
    | .mismatched =>
      { s.updateStore fun st =>
          (st.verifyFailed p (Config.failedPageReads s.freeCount)).afterVerify p s.supv.calendar with
        freeCount := s.freeCount + 1 }

/-- PAGE_VERIFY_DONE (R165, R167, R168, R170). -/
def execPageVerifyDone (readBack : ReadBack) (s : State) : Host.Outcome State Fault Refusal :=
  .next (s.verifyDone readBack)

/-! ### Requests -/

/-- A checkpoint starts (R166). -/
def Store.startCheckpoint (st : Store) (mode : CheckpointMode) : Store :=
  { st with
    generation := st.headerGeneration + 1
    mode := mode
    verifyFailures := 0
    pagesWritten := 0
    cursor := 2
    state := .checkpoint
    claim := some .settings }

/-- The checkpoint mode a code names (R166). -/
def checkpointModeOfCode (b : Byte) : Option CheckpointMode :=
  if b = 0x00 then some .full else if b = 0x01 then some .dirty else none

/-- R166. -/
def checkpointWork (ps : List Byte) (s : State) : State × Answer :=
  match checkpointModeOfCode (byteAt ps 0) with
  | none => s.refuse .badParam
  | some mode =>
    if s.store.state = .idle then
      let t := s.updateStore fun st => st.startCheckpoint mode
      (t, { result := .started, bytes := bytes16 t.store.generation })
    else s.refuse .busy

/-- CHECKPOINT (R166). -/
def execCheckpoint (s : State) : Host.Outcome State Fault Refusal :=
  .next (s.directRequest .checkpoint checkpointWork)

/-- What an abort does in CHECKPOINT: the header goes on, a page in progress is finished, a claim is
withdrawn (R170). -/
def Store.abort (st : Store) : Store :=
  match st.inProgress with
  | some w => if w.page = 0 then st else { st with state := .aborting }
  | none => { st with state := .idle, claim := none, lastResult := .aborted }

/-- R170. -/
def checkpointAbortWork (_ps : List Byte) (s : State) : State × Answer :=
  let before := [s.store.state.code]
  match s.store.state with
  | .checkpoint => (s.updateStore Store.abort, .ok before)
  | .wiping => (s, { result := .busy, bytes := before })
  | .aborting | .idle | .start => (s, .ok before)

/-- CHECKPOINT_ABORT (R170). -/
def execCheckpointAbort (s : State) : Host.Outcome State Fault Refusal :=
  .next (s.directRequest .checkpointAbort checkpointAbortWork)

/-- A wipe starts with page 0 (R171). -/
def Store.startWipe (st : Store) : Store :=
  { st with
    state := .wiping
    verifyFailures := 0
    pagesWritten := 0
    headerGeneration := 0
    headerFigures := .zero
    rewrite := allPages
    inProgress := some { page := 0, phase := .erasing } }

/-- R171. -/
def storeWipeWork (_ps : List Byte) (s : State) : State × Answer :=
  if s.store.state = .idle then
    (s.updateStore Store.startWipe, { result := .started, bytes := [] })
  else s.refuse .busy

/-- STORE_WIPE (R171). -/
def execStoreWipe (s : State) : Host.Outcome State Fault Refusal :=
  .next (s.directRequest .storeWipe storeWipeWork)

/-- A page of a wipe has been erased: the next one is begun, or the wipe ends after page 65 (R171). -/
def Store.wipeErased (st : Store) : Store :=
  match st.state, st.inProgress with
  | .wiping, some w =>
    let st := { st with array := st.array.set w.page .erased }
    match below 66 (w.page.val + 1) with
    | some p => { st with inProgress := some { page := p, phase := .erasing } }
    | none => { st with inProgress := none, state := .idle, lastResult := .wiped }
  | _, _ => st

/-- WIPE_PAGE_ERASE_DONE (R171). -/
def execWipePageEraseDone (s : State) : Host.Outcome State Fault Refusal :=
  .next (s.updateStore Store.wipeErased)

/-- The result bytes of STORE_STATUS (R172). -/
def Store.statusBytes (st : Store) : List Byte :=
  [st.state.code, (st.inProgress.map fun w => BitVec.ofNat 8 w.page.val).getD 0xFF] ++
    bytes16 st.headerGeneration ++ [st.lastResult.code] ++ num8 st.verifyFailures ++
    num8 st.rewrite.length ++ [startModeCode st.startMode] ++ num8 st.restored.loaded ++
    num8 st.restored.lost ++ num8 st.restored.differing ++ num16 st.restored.duplicates ++
    num16 st.restored.unplaced ++ num8 st.headerFigures.pagesWritten ++
    num8 st.headerFigures.pagesFailing ++ bytes32 st.headerFigures.completion

/-- R172. -/
def storeStatusWork (_ps : List Byte) (s : State) : State × Answer := (s, .ok s.store.statusBytes)

/-- STORE_STATUS (R172). -/
def execStoreStatus (s : State) : Host.Outcome State Fault Refusal :=
  .next (s.directRequest .storeStatus storeStatusWork)

end Sys2Proof.Machine
end

