-- ==== Sys2Proof/Machine/Resets.lean ====
section
/-! DEFINITION. Pin reset, PART_RESET and the start-up that follows either (0.9, 9.6, 9.7, R190). -/

namespace Sys2Proof.Machine

/-! ### Reset -/

/-- What a page holds whose erase or program a reset cut off, by the free value `c` (R173, log 9). -/
def Store.cutPage (st : Store) (w : PageWork) (c : CutOff) : Page :=
  match c, w.phase with
  | _, .verifying => st.array[w.page]
  | .notBegun, .erasing | .notBegun, .programming => st.array[w.page]
  | .partway, .erasing | .partway, .programming => .damaged
  | .finished, .erasing => .erased
  | .finished, .programming => st.latch

/-- The array as a reset leaves it: only the page in progress may change (R160, R173). -/
def Store.arrayAfterReset (st : Store) (c : CutOff) : Vector Page 66 :=
  match st.inProgress with
  | none => st.array
  | some w => st.array.set w.page (st.cutPage w c)

/-- The last result after a reset that does not apply power (R173). -/
def Store.resultAfterReset (st : Store) : LastResult :=
  if st.state.busy then .interrupted else .none

/-- Every block at its reset value, with the calendar, last result and start mode of the kind of reset
(0.9). The array is kept, the latch is undefined, and the queue of commands is not the part's. -/
def State.resetPart (s : State) (calendar : Word) (result : LastResult) (mode : StartMode) : State :=
  { State.reset with
    supv := .reset calendar
    resetHeld := s.resetHeld
    store := .reset (s.store.arrayAfterReset (Config.cutOff s.freeCount))
      (Config.latchAfterReset s.freeCount) result mode
    freeCount := s.freeCount + 1
    pending := s.pending }

/-- A pin reset is driven: every block takes its reset value at once and is held there; the start mode
stays that of the latest start-up until STARTMODE is read (R164, R174, R178). -/
def State.driveReset (s : State) (result : LastResult) : State :=
  { s.resetPart 0 result s.store.startMode with resetHeld := true }

/-- RESET_N is released: the start mode is the level of STARTMODE (R174). -/
def State.releaseReset (s : State) (mode : StartMode) : State :=
  { s with resetHeld := false, store := { s.store with startMode := mode } }

/-- PIN_RESET: RESET_N cannot fall again while it is low, nor rise while it is high (R5, R13, R41, R92,
R115, R131, R147, R159, R173, R174, R178, log 13). -/
def execPinReset (event : ResetEvent) (startMode : StartMode) (s : State) :
    Host.Outcome State Fault Refusal :=
  .next
    (match event with
    | .powerApplied => s.driveReset .none
    | .resetDriven => if s.resetHeld then s else s.driveReset s.store.resultAfterReset
    | .released => if s.resetHeld then s.releaseReset startMode else s)

/-- A transaction under way at a PART_RESET is ended for the port: its rest is ignored until CS_N rises,
and what MISO has carried stands (R190). -/
def Port.endedBy (after before : Port) : Port :=
  { after with
    spi := before.spi.map fun x => { x with ended := true }
    miso := before.miso
    misoBits := before.misoBits }

/-- The part after a valid PART_RESET: reset with its calendar kept (R190). -/
def State.softReset (s : State) (mode : StartMode) : State :=
  let t := s.resetPart s.supv.calendar s.store.resultAfterReset mode
  { t with port := t.port.endedBy s.port }

/-- PART_RESET: a start mode out of range is answered BAD_PARAM; otherwise the part is reset, and there
is no response (R190). -/
def execPartReset (s : State) : Host.Outcome State Fault Refusal :=
  .next
    (match s.inExecution .partReset with
    | none => s
    | some r =>
      match startModeOfCode (byteAt r.params 0) with
      | none => s.finish r (.bare .badParam)
      | some mode => s.softReset mode)

/-! ### Reading pages at start-up (R163, R175) -/

/-- Generation and figures of a readable header (R163). -/
def Page.header? (p : Page) : Option (Half × HeaderFigures) :=
  match p with
  | .written (.header f) number generation good =>
    if number = 0 ∧ good = true then some (generation, f) else none
  | .written (.settings _) _ _ _ | .written (.account _) _ _ _ | .erased | .damaged => none

/-- Settings and generation of an accepted settings page (R175). -/
def Page.settings? (p : Page) : Option (Half × Settings) :=
  match p with
  | .written (.settings x) number generation good =>
    if number = 1 ∧ good = true then some (generation, x) else none
  | .written (.header _) _ _ _ | .written (.account _) _ _ _ | .erased | .damaged => none

/-- Images and generation of an accepted account page (R175). -/
def Page.images? (p : Page) (k : Fin 64) : Option (Half × Vector StoredImage 16) :=
  match p with
  | .written (.account v) number generation good =>
    if number = k.val + 2 ∧ good = true then some (generation, v) else none
  | .written (.header _) _ _ _ | .written (.settings _) _ _ _ | .erased | .damaged => none

/-- Changes the restore figures. -/
def State.figure (s : State) (f : RestoreFigures → RestoreFigures) : State :=
  { s with store := { s.store with restored := f s.store.restored } }

/-- A page counted as loaded, and as differing when its generation is not the header's (R175). -/
def State.countLoaded (s : State) (generation : Half) : State :=
  s.figure fun f =>
    { f with
      loaded := f.loaded + 1
      differing := f.differing + (if generation = s.store.headerGeneration then 0 else 1) }

/-- A page counted as lost (R175). -/
def State.countLost (s : State) : State := s.figure fun f => { f with lost := f.lost + 1 }

/-- Page 0 is read (R163, step 1 of R174). -/
def State.readHeader (s : State) : State :=
  match s.store.array[0].header? with
  | some (generation, f) =>
    { s with store := { s.store with headerGeneration := generation, headerFigures := f } }
  | none => { s with store := { s.store with headerGeneration := 0, headerFigures := .zero } }

/-- Every setting of R162 goes into its block, and the staged copy is set equal to the live (R175). No
silence limit, window or level of an accepted page is checked (DESIGN CHOICE, log 28). -/
def State.applySettings (s : State) (x : Settings) : State :=
  { s with
    tariff := { live := x.live, staged := x.live, band := x.band }
    supv := { s.supv with gracePeriod := x.gracePeriod, silenceLimit := x.silenceLimit }
    discovery := { s.discovery with policy := x.policy }
    notices :=
      { s.notices with
        groups := Vector.ofFn fun g =>
          { s.notices.groups[g] with mask := x.groups[g].1, priority := x.groups[g].2 } }
    lines := Vector.ofFn fun n =>
      { s.lines[n] with rate := x.lines[n].1, window := x.lines[n].2 } }

/-- The settings page is handled (R175). -/
def State.loadSettings (s : State) : State :=
  match s.store.array[1].settings? with
  | some (generation, x) => (s.applySettings x).countLoaded generation
  | none => s.countLost

/-! ### Placing images (R176) -/

/-- An image as a record can hold it; `none` for the identities, classes, groups and lines that R176
drops. -/
def StoredImage.load? (m : StoredImage) : Option AccountImage :=
  let line : Option (Option LineNo) :=
    match m.lastLine with
    | none => some none
    | some b => (below 4 b.toNat).map some
  match below 16 m.tariffClass.toNat, below 8 m.group.toNat, line with
  | some c, some g, some l =>
    if validIdentity m.identity then
      some
        { state := m.state
          identity := m.identity
          suspended := m.suspended
          tariffClass := c
          group := g
          balance := m.balance
          consumption := m.consumption
          lowOverride := m.lowOverride
          lowArmed := m.lowArmed
          lastSequence := m.lastSequence
          lastLine := l
          lastTime := m.lastTime
          reportCount := m.reportCount
          gapCount := m.gapCount }
    else none
  | _, _, _ => none

/-- Counts an unplaced record (R176). -/
def State.countUnplaced (s : State) : State :=
  s.figure fun f => { f with unplaced := f.unplaced + 1 }

/-- Counts a duplicate dropped (R176). -/
def State.countDropped (s : State) : State :=
  s.figure fun f => { f with duplicates := f.duplicates + 1 }

/-- One image of an accepted page, for its slot: the first row of R176 that applies. -/
def State.placeImage (s : State) (i : Slot) (m : StoredImage) : State :=
  if m.state = .free then s
  else
    match m.load? with
    | none => s.countUnplaced
    | some a =>
      if (s.index.lookup a.identity).isSome then s.countDropped
      else
        match s.index.insert? a.identity i with
        | none => s.countUnplaced
        | some ix =>
          { s.setAccount i { image := a, silent := false, pending := 0, dirty := false } with
            index := ix
            occupancy := s.occupancy + 1 }

/-- Images dropped so far (R176). -/
def RestoreFigures.dropped (f : RestoreFigures) : Nat := f.duplicates + f.unplaced

/-- The sixteen images of an accepted page, in ascending slot order (R176). -/
def State.placePage (s : State) (k : Fin 64) (v : Vector StoredImage 16) : State :=
  let t := pagePlaces.foldl (fun t j => t.placeImage (pageSlot k j) v[j]) s
  if t.store.restored.dropped = s.store.restored.dropped then t
  else t.updateStore fun st => st.joinRewrite k

/-- One account page is read: placed when accepted, else counted as lost and put into the rewrite set
(R175, R176). -/
def State.loadPage (s : State) (k : Fin 64) : State :=
  match s.store.array[accountPage k].images? k with
  | some (generation, v) => (s.countLoaded generation).placePage k v
  | none => s.countLost.updateStore fun st => st.joinRewrite k

/-! ### Finishing the table (R177) -/

/-- A state that stands in the silence list after a restore (R118, R177). -/
def AccountState.isOpen : AccountState → Bool
  | .active | .grace | .held => true
  | .closing | .free => false

/-- The entries of the slots that meet a test, with time 0, in ascending slot order (R177). -/
def State.restoredEntries (s : State) (p : AccountState → Bool) : List TimedEntry :=
  (allSlots.filter fun i => p (s.account i).image.state).map fun i => { slot := i, time := 0 }

/-- Silence list, grace list, CLOSED notices, high-water mark (R177). -/
def State.finishTable (s : State) : State :=
  let t := s.updateSupv fun v =>
    { v with
      silence := v.silence ++ s.restoredEntries AccountState.isOpen
      grace := v.grace ++ s.restoredEntries fun st => st == .grace }
  let t := (allSlots.filter fun i => (s.account i).image.state == .closing).foldl
    (fun t i => t.setKind i .closed) t
  { t with highWater := t.occupancy }

/-- The header counts as loaded when it is readable, and as lost when not (R175). -/
def State.countHeader (s : State) : State :=
  match s.store.array[0].header? with
  | some _ => s.figure fun f => { f with loaded := f.loaded + 1 }
  | none => s.countLost

/-- The RESTORE start-up (R175, R176, R177). -/
def State.restoreTable (s : State) : State :=
  (allPages.foldl State.loadPage (s.countHeader).loadSettings).finishTable

/-- Start-up has ended: the store is IDLE, and the port goes to READY, or to FAULT when an OVERFLOW
arose in START (R174, R178, R180). -/
def State.openPort (s : State) : State :=
  let port :=
    if s.port.cause = .overflow then { s.port with state := .fault }
    else { s.port with state := .ready, opened := true }
  { s with store := { s.store with state := .idle }, port := port }

/-- The start-up (R174). -/
def State.startUp (s : State) : State :=
  let s := s.readHeader
  match s.store.startMode with
  | .blank =>
    (s.updateStore fun st => { st with rewrite := allPages, restored := .zero }).openPort
  | .restore => s.restoreTable.openPort

/-- START_UP; it follows a reset, so it is an event of the store's START state alone, once RESET_N is
released (R174). -/
def execStartUp (s : State) : Host.Outcome State Fault Refusal :=
  .next (if s.store.state = .start ∧ s.resetHeld = false then s.startUp else s)

end Sys2Proof.Machine
end

