-- ==== Sys2Proof/Machine/SnapshotUnit.lean ====
section
/-! DEFINITION. The sweep and the requests of the snapshot unit (chapter 8). -/

namespace Sys2Proof.Machine

/-- Captures slot number `n` if it is one and is still uncaptured (R151). -/
def State.sweepSlot (s : State) (sn : Snapshot) (n : Nat) : Snapshot :=
  match below 1024 n with
  | some i => sn.captureOnce i (s.account i)
  | none => sn

/-- One sweep step: sixteen slots from the cursor, in ascending order (R151). -/
def State.sweep (s : State) : State :=
  let cursor := s.snapshot.cursor
  let sn := ((List.range 16).map fun j => cursor + j).foldl s.sweepSlot s.snapshot
  { s with
    snapshot :=
      { sn with
        cursor := cursor + 16
        state := if 1024 ≤ cursor + 16 then .ready else sn.state } }

/-- SWEEP_STEP (R151). -/
def execSweepStep (s : State) : Host.Outcome State Fault Refusal :=
  .next (if s.granted = some .sweep then (s.turn .sweep).sweep else s)

/-- A new cut (R149). -/
def Snapshot.cut (sn : Snapshot) (calendar : Word) : Snapshot where
  state := .sweeping
  id := sn.id + 1
  cutStamp := calendar
  cursor := 0
  present := 0
  consumptionSum := 0
  balanceSum := 0
  shadows := []

/-- R149. -/
def snapshotTakeWork (_ps : List Byte) (s : State) : State × Answer :=
  if s.snapshot.state = .idle then
    let sn := s.snapshot.cut s.supv.calendar
    ({ s with snapshot := sn }, { result := .started, bytes := bytes16 sn.id })
  else s.refuse .snapshotActive

/-- SNAPSHOT_TAKE (R149). -/
def execSnapshotTake (s : State) : Host.Outcome State Fault Refusal :=
  .next (s.grantRequest .snapshotTake snapshotTakeWork)

/-- R155: the capture on demand is `copyBeforeWrite`, which captures only while SWEEPING. -/
def snapshotReadWork (ps : List Byte) (s : State) : State × Answer :=
  match slotAt ps 0 with
  | none => s.refuse .badParam
  | some i =>
    if s.snapshot.state = .idle then s.refuse .noSnapshot
    else
      let t := s.copyBeforeWrite i
      match (t.snapshot.shadow i).fields with
      | none => (t, .bare .absent)
      | some f => (t, .ok (shadowBytes t.snapshot.id i f))

/-- SNAPSHOT_READ (R155). -/
def execSnapshotRead (s : State) : Host.Outcome State Fault Refusal :=
  .next (s.grantRequest .snapshotRead snapshotReadWork)

/-- The result bytes of SNAPSHOT_TOTALS (R156). -/
def Snapshot.totalBytes (sn : Snapshot) : List Byte :=
  bytes16 sn.id ++ bytes32 sn.cutStamp ++ num16 sn.present ++ bytes48 sn.consumptionSum ++
    bytes48 sn.balanceSum

/-- R156. -/
def snapshotTotalsWork (_ps : List Byte) (s : State) : State × Answer :=
  match s.snapshot.state with
  | .ready => (s, .ok s.snapshot.totalBytes)
  | .sweeping => s.refuse .busy
  | .idle => s.refuse .noSnapshot

/-- SNAPSHOT_TOTALS (R156). -/
def execSnapshotTotals (s : State) : Host.Outcome State Fault Refusal :=
  .next (s.grantRequest .snapshotTotals snapshotTotalsWork)

/-- R157. -/
def snapshotReleaseWork (_ps : List Byte) (s : State) : State × Answer :=
  ({ s with snapshot := { s.snapshot with state := .idle } }, .ok [s.snapshot.state.code])

/-- SNAPSHOT_RELEASE (R157). -/
def execSnapshotRelease (s : State) : Host.Outcome State Fault Refusal :=
  .next (s.grantRequest .snapshotRelease snapshotReleaseWork)

end Sys2Proof.Machine
end

