-- ==== Sys2Proof/Machine/Supervision.lean ====
section
/-! DEFINITION. The second edge, the two expiries, and the requests of the supervision unit
(chapter 6). -/

namespace Sys2Proof.Machine

/-! ### The second edge (R115) -/

/-- Uptime rises by one and stops at FFFFFFFFh; the calendar rises by one and wraps (R115). -/
def Supervision.advance (v : Supervision) : Supervision :=
  { v with
    uptime := if v.uptime = BitVec.allOnes 32 then v.uptime else v.uptime + 1
    calendar := v.calendar + 1 }

/-- SECOND_EDGE: no edge comes while a pin reset holds the divider; the counters advance, then both
heads are tested; the tests begin once the port has gone to READY (R115, R121, R131). -/
def execSecondEdge (s : State) : Host.Outcome State Fault Refusal :=
  .next
    (if s.resetHeld then s
    else s.updateSupv fun v => if s.port.opened then v.advance.test else v.advance)

/-! ### The expiries -/

/-- The expiry of the head of the silence list (R123); the test of both heads ends the grant. -/
def State.expireSilence (s : State) (e : TimedEntry) (rest : List TimedEntry) : State :=
  let s := s.copyBeforeWrite e.slot
  let s := s.updateSupv fun v => { v with silence := rest, silenceMark := false }
  let s := s.setSilent e.slot true
  let s := s.setKind e.slot .silent
  s.updateSupv Supervision.test

/-- SILENCE_EXPIRY (R121, R122, R123). -/
def execSilenceExpiry (s : State) : Host.Outcome State Fault Refusal :=
  .next
    (if s.granted = some .supv then
      match s.supv.expiry with
      | some (.silence e rest) => (s.turn .supv).expireSilence e rest
      | some (.grace _ _) | none => s
    else s)

/-- The expiry of the head of the grace list (R126); the test of both heads ends the grant. -/
def State.expireGrace (s : State) (e : TimedEntry) (rest : List TimedEntry) : State :=
  let before := (s.account e.slot).image
  let s := s.copyBeforeWrite e.slot
  let s := s.updateSupv fun v => { v with grace := rest, graceMark := false }
  let s := s.setState e.slot .held
  let s := s.setKind e.slot .held
  let s := s.settleDirty e.slot before
  s.updateSupv Supervision.test

/-- GRACE_EXPIRY (R121, R122, R126). -/
def execGraceExpiry (s : State) : Host.Outcome State Fault Refusal :=
  .next
    (if s.granted = some .supv then
      match s.supv.expiry with
      | some (.grace e rest) => (s.turn .supv).expireGrace e rest
      | some (.silence _ _) | none => s
    else s)

/-! ### Requests -/

/-- The silence limits SET_SILENCE accepts: 0, or 60..604800 (R120). -/
def validSilenceLimit (limit : Word) : Bool :=
  limit == 0 || (decide (60 ≤ limit.toNat) && decide (limit.toNat ≤ 604800))

/-- R120. -/
def setSilenceWork (ps : List Byte) (s : State) : State × Answer :=
  if validSilenceLimit (wordAt ps 0) then
    (s.updateSupv fun v => { v with silenceLimit := wordAt ps 0, silenceMark := false },
      .ok (bytes32 s.supv.silenceLimit))
  else s.refuse .badParam

/-- SET_SILENCE (R120). -/
def execSetSilence (s : State) : Host.Outcome State Fault Refusal :=
  .next (s.grantRequest .setSilence setSilenceWork)

/-- R125. -/
def setGraceWork (ps : List Byte) (s : State) : State × Answer :=
  (s.updateSupv fun v => { v with gracePeriod := halfAt ps 0, graceMark := false },
    .ok (bytes16 s.supv.gracePeriod))

/-- SET_GRACE (R125). -/
def execSetGrace (s : State) : Host.Outcome State Fault Refusal :=
  .next (s.grantRequest .setGrace setGraceWork)

/-- R116. -/
def setTimeWork (ps : List Byte) (s : State) : State × Answer :=
  (s.updateSupv fun v => { v with calendar := wordAt ps 0 }, .ok (bytes32 s.supv.calendar))

/-- SET_TIME (R116). -/
def execSetTime (s : State) : Host.Outcome State Fault Refusal :=
  .next (s.grantRequest .setTime setTimeWork)

/-- R117. -/
def readTimeWork (_ps : List Byte) (s : State) : State × Answer :=
  (s, .ok (bytes32 s.supv.calendar ++ bytes32 s.supv.uptime ++ bytes32 s.supv.silenceLimit ++
    bytes16 s.supv.gracePeriod ++ num16 s.supv.silence.length ++ num16 s.supv.grace.length))

/-- READ_TIME (R117). -/
def execReadTime (s : State) : Host.Outcome State Fault Refusal :=
  .next (s.grantRequest .readTime readTimeWork)

end Sys2Proof.Machine
end

