-- ==== Sys2Proof/Machine/Tariffs.lean ====
section
/-! DEFINITION. The requests of the tariff unit (3.1, 3.2). -/

namespace Sys2Proof.Machine

/-- The class that the parameters of TARIFF_STAGE describe (R44). -/
def stagedClass (ps : List Byte) : TariffClass where
  price := #v[halfAt ps 1, halfAt ps 3, halfAt ps 5, halfAt ps 7]
  low := wordAt ps 9
  hold := wordAt ps 13
  resume := wordAt ps 17

/-- R44. -/
def tariffStageWork (ps : List Byte) (s : State) : State × Answer :=
  match classAt ps 0 with
  | none => s.refuse .badParam
  | some c =>
    ({ s with tariff := { s.tariff with staged := s.tariff.staged.set c (stagedClass ps) } }, .ok [])

/-- TARIFF_STAGE (R44). -/
def execTariffStage (s : State) : Host.Outcome State Fault Refusal :=
  .next (s.directRequest .tariffStage tariffStageWork)

/-- The copy that a copy byte names (R45). -/
def TariffUnit.copy (t : TariffUnit) (b : Byte) : Option (Vector TariffClass 16) :=
  if b = 0x00 then some t.live else if b = 0x01 then some t.staged else none

/-- R45. -/
def tariffReadWork (ps : List Byte) (s : State) : State × Answer :=
  match classAt ps 0, s.tariff.copy (byteAt ps 1) with
  | some c, some classes => (s, .ok ([byteAt ps 0, byteAt ps 1] ++ classes[c].bytes))
  | _, _ => s.refuse .badParam

/-- TARIFF_READ (R45). -/
def execTariffRead (s : State) : Host.Outcome State Fault Refusal :=
  .next (s.directRequest .tariffRead tariffReadWork)

/-- The classes in order. -/
def allClasses : List ClassNo := List.finRange 16

/-- A class fails the commit check: its resume level is not above its hold level (R46). -/
def TariffClass.fails (t : TariffClass) : Bool := decide (t.resume.toInt ≤ t.hold.toInt)

/-- The lowest staged class that fails (R46). -/
def TariffUnit.failing (t : TariffUnit) : Option ClassNo :=
  allClasses.find? fun c => t.staged[c].fails

/-- R46. -/
def tariffCommitWork (_ps : List Byte) (s : State) : State × Answer :=
  match s.tariff.failing with
  | some c => (s, { result := .stagedInvalid, bytes := num8 c.val })
  | none => ({ s with tariff := { s.tariff with live := s.tariff.staged } }, .ok [])

/-- TARIFF_COMMIT (R46, R47). -/
def execTariffCommit (s : State) : Host.Outcome State Fault Refusal :=
  .next (s.grantRequest .tariffCommit tariffCommitWork)

/-- R48. -/
def tariffDiscardWork (_ps : List Byte) (s : State) : State × Answer :=
  ({ s with tariff := { s.tariff with staged := s.tariff.live } }, .ok [])

/-- TARIFF_DISCARD (R48). -/
def execTariffDiscard (s : State) : Host.Outcome State Fault Refusal :=
  .next (s.directRequest .tariffDiscard tariffDiscardWork)

/-- R49. -/
def setBandWork (ps : List Byte) (s : State) : State × Answer :=
  match below 4 (byteAt ps 0).toNat with
  | none => s.refuse .badParam
  | some b => ({ s with tariff := { s.tariff with band := b } }, .ok (num8 s.tariff.band.val))

/-- SET_BAND (R49). -/
def execSetBand (s : State) : Host.Outcome State Fault Refusal :=
  .next (s.grantRequest .setBand setBandWork)

end Sys2Proof.Machine
end

