-- ==== Sys2Proof/Machine/Dispatch.lean ====
section
/-! DEFINITION. The meaning of each command, one arm per row of spec/opcode_table.json. -/

namespace Sys2Proof.Machine

def exec (i : Instr) (s : State) : Host.Outcome State Fault Refusal :=
  match i with
  | .pinReset event startMode => Sys2Proof.Machine.execPinReset event startMode s
  | .startUp => Sys2Proof.Machine.execStartUp s
  | .secondEdge => Sys2Proof.Machine.execSecondEdge s
  | .silenceExpiry => Sys2Proof.Machine.execSilenceExpiry s
  | .graceExpiry => Sys2Proof.Machine.execGraceExpiry s
  | .frameCharacterReceived line byte start part => Sys2Proof.Machine.execFrameCharacterReceived line byte start part s
  | .framingError line start part => Sys2Proof.Machine.execFramingError line start part s
  | .frameGapTimeout line now => Sys2Proof.Machine.execFrameGapTimeout line now s
  | .reportFrame line byte start => Sys2Proof.Machine.execReportFrame line byte start s
  | .contentionCharacter line highFor => Sys2Proof.Machine.execContentionCharacter line highFor s
  | .replyDeadline line place now => Sys2Proof.Machine.execReplyDeadline line place now s
  | .replyStart line now => Sys2Proof.Machine.execReplyStart line now s
  | .replySent line now => Sys2Proof.Machine.execReplySent line now s
  | .reportGrant grant => Sys2Proof.Machine.execReportGrant grant s
  | .sweepStep => Sys2Proof.Machine.execSweepStep s
  | .settingsPageCapture => Sys2Proof.Machine.execSettingsPageCapture s
  | .accountPageCapture => Sys2Proof.Machine.execAccountPageCapture s
  | .pageEraseDone => Sys2Proof.Machine.execPageEraseDone s
  | .pageProgramDone => Sys2Proof.Machine.execPageProgramDone s
  | .pageVerifyDone readBack => Sys2Proof.Machine.execPageVerifyDone readBack s
  | .wipePageEraseDone => Sys2Proof.Machine.execWipePageEraseDone s
  | .requestWrite piece => Sys2Proof.Machine.execRequestWrite piece s
  | .responseRead piece => Sys2Proof.Machine.execResponseRead piece s
  | .statusRead piece => Sys2Proof.Machine.execStatusRead piece s
  | .portFlush piece => Sys2Proof.Machine.execPortFlush piece s
  | .unknownTransaction first piece => Sys2Proof.Machine.execUnknownTransaction first piece s
  | .executorTake => Sys2Proof.Machine.execExecutorTake s
  | .overflowFaultResponse => Sys2Proof.Machine.execOverflowFaultResponse s
  | .enrol => Sys2Proof.Machine.execEnrol s
  | .accountRead => Sys2Proof.Machine.execAccountRead s
  | .find => Sys2Proof.Machine.execFind s
  | .setClass => Sys2Proof.Machine.execSetClass s
  | .setGroup => Sys2Proof.Machine.execSetGroup s
  | .setLow => Sys2Proof.Machine.execSetLow s
  | .retire => Sys2Proof.Machine.execRetire s
  | .purge => Sys2Proof.Machine.execPurge s
  | .tableStatus => Sys2Proof.Machine.execTableStatus s
  | .highwaterReset => Sys2Proof.Machine.execHighwaterReset s
  | .adjust => Sys2Proof.Machine.execAdjust s
  | .suspend => Sys2Proof.Machine.execSuspend s
  | .unsuspend => Sys2Proof.Machine.execUnsuspend s
  | .tariffStage => Sys2Proof.Machine.execTariffStage s
  | .tariffRead => Sys2Proof.Machine.execTariffRead s
  | .tariffCommit => Sys2Proof.Machine.execTariffCommit s
  | .tariffDiscard => Sys2Proof.Machine.execTariffDiscard s
  | .setBand => Sys2Proof.Machine.execSetBand s
  | .lineConfig => Sys2Proof.Machine.execLineConfig s
  | .lineMode => Sys2Proof.Machine.execLineMode s
  | .lineStatus => Sys2Proof.Machine.execLineStatus s
  | .lineClear => Sys2Proof.Machine.execLineClear s
  | .setUnknownPolicy => Sys2Proof.Machine.execSetUnknownPolicy s
  | .discoveryTake => Sys2Proof.Machine.execDiscoveryTake s
  | .discoveryClear => Sys2Proof.Machine.execDiscoveryClear s
  | .setSilence => Sys2Proof.Machine.execSetSilence s
  | .setGrace => Sys2Proof.Machine.execSetGrace s
  | .setTime => Sys2Proof.Machine.execSetTime s
  | .readTime => Sys2Proof.Machine.execReadTime s
  | .groupConfig => Sys2Proof.Machine.execGroupConfig s
  | .noticeFetch => Sys2Proof.Machine.execNoticeFetch s
  | .noticeAck => Sys2Proof.Machine.execNoticeAck s
  | .noticeClear => Sys2Proof.Machine.execNoticeClear s
  | .noticeEnable => Sys2Proof.Machine.execNoticeEnable s
  | .groupStatus => Sys2Proof.Machine.execGroupStatus s
  | .snapshotTake => Sys2Proof.Machine.execSnapshotTake s
  | .snapshotRead => Sys2Proof.Machine.execSnapshotRead s
  | .snapshotTotals => Sys2Proof.Machine.execSnapshotTotals s
  | .snapshotRelease => Sys2Proof.Machine.execSnapshotRelease s
  | .checkpoint => Sys2Proof.Machine.execCheckpoint s
  | .checkpointAbort => Sys2Proof.Machine.execCheckpointAbort s
  | .storeStatus => Sys2Proof.Machine.execStoreStatus s
  | .storeWipe => Sys2Proof.Machine.execStoreWipe s
  | .partIdent => Sys2Proof.Machine.execPartIdent s
  | .partReset => Sys2Proof.Machine.execPartReset s

end Sys2Proof.Machine
end

