-- ==== Sys2Proof/Safety.lean ====
section
/-! DEFINITION. The words the statements are made in: when a request is being served and what its
answer leaves, what a change of one account leaves, the tables of chapters 1, 3 and 9 as functions of
one record, and the invariants of the part. -/

namespace Sys2Proof.Machine

/-! ### Requests -/

/-- Request `r`, for `q`, is in execution and is carried out next: the part is in service, and where
the request needs a table grant the arbiter grants EXEC (R178, R186). -/
structure State.Serving (s : State) (q : Req) (r : Request) : Prop where
  opened : s.port.opened = true
  executing : s.port.executing = some r
  isReq : r.req = q
  granted : q.needsGrant = true → s.granted = some .exec

/-- The state `t` with request `r` answered by `a`: the response stands at the end of the response
queue, no request is in execution, and a request that had a table grant passed the turn to SUPV
(R11, R186). -/
def State.answered (t : State) (r : Request) (a : Answer) : State :=
  { t with
    rotation := if r.req.needsGrant then .supv else t.rotation
    port :=
      { t.port with
        executing := none
        responses := t.port.responses ++ responseBytes r.tag r.req.code a } }

/-- Command `c` gives `t` with request `r` answered by `a`. -/
def State.Answers (s : State) (c : Instr) (r : Request) (t : State) (a : Answer) : Prop :=
  exec c s = .next (t.answered r a)

/-- Command `c` gives a refusal: the bare result, and nothing else changes (R14). -/
def State.Refuses (s : State) (c : Instr) (r : Request) (result : Result) : Prop :=
  exec c s = .next (s.answered r (.bare result))

/-- The requests with their codes and the least and greatest parameter length of each, as R192 lists
them. -/
def requestTable : List (Req × Byte × Nat × Nat) :=
  [(.enrol, 0x10, 13, 19), (.accountRead, 0x11, 2, 2), (.find, 0x12, 6, 6),
   (.setClass, 0x13, 3, 3), (.setGroup, 0x14, 3, 3), (.setLow, 0x15, 3, 7),
   (.retire, 0x16, 2, 2), (.purge, 0x17, 2, 2), (.tableStatus, 0x18, 0, 0),
   (.highwaterReset, 0x19, 0, 0), (.adjust, 0x20, 6, 6), (.suspend, 0x21, 2, 2),
   (.unsuspend, 0x22, 2, 2), (.tariffStage, 0x23, 21, 21), (.tariffRead, 0x24, 2, 2)] ++
  [(.tariffCommit, 0x25, 0, 0), (.tariffDiscard, 0x26, 0, 0), (.setBand, 0x27, 1, 1),
   (.lineConfig, 0x30, 3, 3), (.lineMode, 0x31, 2, 2), (.lineStatus, 0x32, 1, 1),
   (.lineClear, 0x33, 1, 1), (.setUnknownPolicy, 0x38, 1, 1), (.discoveryTake, 0x39, 0, 0),
   (.discoveryClear, 0x3A, 0, 0), (.setSilence, 0x40, 4, 4), (.setGrace, 0x41, 2, 2),
   (.setTime, 0x42, 4, 4), (.readTime, 0x43, 0, 0), (.groupConfig, 0x50, 3, 3)] ++
  [(.noticeFetch, 0x51, 1, 1), (.noticeAck, 0x52, 1, 1), (.noticeClear, 0x53, 3, 3),
   (.noticeEnable, 0x54, 1, 1), (.groupStatus, 0x55, 1, 1), (.snapshotTake, 0x60, 0, 0),
   (.snapshotRead, 0x61, 2, 2), (.snapshotTotals, 0x62, 0, 0), (.snapshotRelease, 0x63, 0, 0),
   (.checkpoint, 0x70, 1, 1), (.checkpointAbort, 0x71, 0, 0), (.storeStatus, 0x72, 0, 0),
   (.storeWipe, 0x73, 0, 0), (.partIdent, 0x7E, 0, 0), (.partReset, 0x7F, 1, 1)]

/-- The commands that carry out a request, each with its request (R186). -/
def requestCommands : List (Req × Instr) :=
  [(.enrol, .enrol), (.accountRead, .accountRead), (.find, .find), (.setClass, .setClass),
   (.setGroup, .setGroup), (.setLow, .setLow), (.retire, .retire), (.purge, .purge),
   (.tableStatus, .tableStatus), (.highwaterReset, .highwaterReset), (.adjust, .adjust),
   (.suspend, .suspend), (.unsuspend, .unsuspend), (.tariffStage, .tariffStage),
   (.tariffRead, .tariffRead), (.tariffCommit, .tariffCommit)] ++
  [(.tariffDiscard, .tariffDiscard), (.setBand, .setBand), (.lineConfig, .lineConfig),
   (.lineMode, .lineMode), (.lineStatus, .lineStatus), (.lineClear, .lineClear),
   (.setUnknownPolicy, .setUnknownPolicy), (.discoveryTake, .discoveryTake),
   (.discoveryClear, .discoveryClear), (.setSilence, .setSilence), (.setGrace, .setGrace),
   (.setTime, .setTime), (.readTime, .readTime), (.groupConfig, .groupConfig)] ++
  [(.noticeFetch, .noticeFetch), (.noticeAck, .noticeAck), (.noticeClear, .noticeClear),
   (.noticeEnable, .noticeEnable), (.groupStatus, .groupStatus), (.snapshotTake, .snapshotTake),
   (.snapshotRead, .snapshotRead), (.snapshotTotals, .snapshotTotals),
   (.snapshotRelease, .snapshotRelease), (.checkpoint, .checkpoint),
   (.checkpointAbort, .checkpointAbort), (.storeStatus, .storeStatus), (.storeWipe, .storeWipe),
   (.partIdent, .partIdent), (.partReset, .partReset)]

/-- The requests carried out inside one EXEC table grant, as R186 lists them. -/
def grantRequests : List Req :=
  [.enrol, .accountRead, .find, .setClass, .setGroup, .setLow, .retire, .purge, .tableStatus,
   .highwaterReset, .adjust, .suspend, .unsuspend, .tariffCommit, .setBand, .setUnknownPolicy,
   .discoveryTake, .discoveryClear, .setSilence, .setGrace, .setTime, .readTime, .groupConfig,
   .noticeFetch, .noticeAck, .noticeClear, .groupStatus, .snapshotTake, .snapshotRead,
   .snapshotTotals, .snapshotRelease]

/-! ### The table arbiter -/

/-- A claimant holds a claim: the table of R10. -/
def State.Claims (s : State) : Claimant → Prop
  | .line n => ∃ r ∈ s.lines[n].slots, r.state = .waiting
  | .exec => ∃ r, s.port.executing = some r ∧ r.req ∈ grantRequests
  | .supv => s.supv.silenceMark = true ∨ s.supv.graceMark = true
  | .sweep => s.snapshot.state = .sweeping
  | .capt => s.store.claim ≠ none

/-- The place of a claimant in rotation order (R10). -/
def Claimant.place : Claimant → Nat
  | .line n => n.val
  | .exec => 4
  | .supv => 5
  | .sweep => 6
  | .capt => 7

/-- How many claimants a search that begins at `start` passes over before it comes to `c`: from CAPT it
goes round to L0 (R11). -/
def Claimant.passed (start c : Claimant) : Nat := (c.place + 8 - start.place) % 8

/-- The table is free: no slot of a line stands IN_TABLE (R11, R12, R75). -/
def State.TableFree (s : State) : Prop :=
  ∀ n : LineNo, ∀ r ∈ s.lines[n].slots, ∀ result, r.state ≠ .inTable result

/-- The claimant whose unit of work a command is, for the commands that are grants of a claimant other
than EXEC (R10). -/
def Instr.claimant? : Instr → Option Claimant
  | .reportGrant (.work n) => some (.line n)
  | .silenceExpiry | .graceExpiry => some .supv
  | .sweepStep => some .sweep
  | .settingsPageCapture | .accountPageCapture => some .capt
  | _ => none

/-! ### What a change of one account leaves -/

/-- The state that supply evaluation gives an account: the table of R57. -/
def TariffUnit.evaluated (t : TariffUnit) (period : Half) (a : AccountImage) : AccountState :=
  match a.state with
  | .active =>
    if a.balance.toInt ≤ (t.classOf a).hold.toInt then
      if period = 0 then .held else .grace
    else .active
  | .grace => if (t.classOf a).hold.toInt < a.balance.toInt then .active else .grace
  | .held => if (t.classOf a).resume.toInt ≤ a.balance.toInt then .active else .held
  | .free => .free
  | .closing => .closing

/-- The kind that a move of supply evaluation sets (R57). -/
def moveKind (old new : AccountState) : KindSet :=
  match old, new with
  | .active, .grace => NoticeKind.bit .grace
  | .active, .held => NoticeKind.bit .held
  | .held, .active => NoticeKind.bit .resumed
  | _, _ => 0

/-- The grace list after an account went from one state to another (R58, R59, R124). -/
def Supervision.graceMoved (v : Supervision) (i : Slot) (old new : AccountState) : Supervision :=
  if old = .active ∧ new = .grace then v.joinGrace i
  else if old = .grace ∧ new ≠ .grace then v.leaveGrace i
  else v

/-- The balance is below the effective low level (R54). -/
def TariffUnit.belowLow (t : TariffUnit) (a : AccountImage) : Bool :=
  decide (a.balance.toInt < (t.effectiveLow a).toInt)

/-- `t` has the same accounts as `s` but for slot `i`. -/
def State.SameElsewhere (s t : State) (i : Slot) : Prop := ∀ j, j ≠ i → t.account j = s.account j

/-- The notices of `t` are those of `s` with the kinds of `ks` counted once more in group `g`: no
other count, mask, priority or enable differs; a group that is QUIET and eligible is RAISED, and no
other group state differs (R133, R135). -/
structure Notices.Gained (m n : Notices) (g : GroupNo) (ks : KindSet) : Prop where
  enable : n.enable = m.enable
  others : ∀ h, h ≠ g → n.groups[h] = m.groups[h]
  mask : n.groups[g].mask = m.groups[g].mask
  priority : n.groups[g].priority = m.groups[g].priority
  count : ∀ k, n.groups[g].count[k] = m.groups[g].count[k] + (if KindSet.has ks k then 1 else 0)
  state : n.groups[g].state =
    if ks ≠ 0 ∧ m.groups[g].state = .quiet ∧ n.groups[g].eligible = true then .raised
    else m.groups[g].state

/-- The notices of `n` are those of `m` with the kinds of `ks` counted once less in group `g`, and
no group state differs (R133, R145). -/
structure Notices.Lost (m n : Notices) (g : GroupNo) (ks : KindSet) : Prop where
  enable : n.enable = m.enable
  others : ∀ h, h ≠ g → n.groups[h] = m.groups[h]
  mask : n.groups[g].mask = m.groups[g].mask
  priority : n.groups[g].priority = m.groups[g].priority
  count : ∀ k, n.groups[g].count[k] = m.groups[g].count[k] - (if KindSet.has ks k then 1 else 0)
  state : n.groups[g].state = m.groups[g].state

/-- `t` is `s` after a change of account `i` that leaves it the image `a` and sets the kinds `ks`: the
slot is captured first (R12), the kinds that were not pending are counted in the account's group
(R133), dirty is set when the image has changed (R4), and no other account changes. -/
structure State.Changed (s t : State) (i : Slot) (a : AccountImage) (ks : KindSet) : Prop where
  record : t.account i =
    { image := a
      silent := (s.account i).silent
      pending := (s.account i).pending ||| ks
      dirty := (s.account i).dirty || decide (a ≠ (s.account i).image) }
  elsewhere : s.SameElsewhere t i
  captured : t.snapshot = (s.copyBeforeWrite i).snapshot
  counted : s.notices.Gained t.notices a.group (ks &&& ~~~(s.account i).pending)

/-! ### Requests that name a slot -/

/-- The requests that name a slot first, each with its command (R14, R52, R61, R62, R141). -/
def slotRequests : List (Req × Instr) :=
  [(.accountRead, .accountRead), (.setClass, .setClass), (.setGroup, .setGroup),
   (.setLow, .setLow), (.retire, .retire), (.purge, .purge), (.adjust, .adjust),
   (.suspend, .suspend), (.unsuspend, .unsuspend), (.noticeClear, .noticeClear)]

/-- The parameters after the slot are in range, and agree with the length (check 2 of R14). -/
def Req.restOk (q : Req) (ps : List Byte) : Prop :=
  match q with
  | .setClass => (byteAt ps 2).toNat ≤ 15
  | .setGroup => (byteAt ps 2).toNat ≤ 7
  | .setLow => byteAt ps 2 = 0x00 ∧ ps.length = 3 ∨ byteAt ps 2 = 0x01 ∧ ps.length = 7
  | .adjust => (wordAt ps 2).toNat ≠ 0
  | .noticeClear => (byteAt ps 2).toNat ≤ 127
  | _ => True

/-- Checks 1 to 3 of R15: length and presence byte, identity, class, group and slot. -/
def enrolParamsOk (ps : List Byte) : Prop :=
  (ps.length = 13 + (if (byteAt ps 12).getLsbD 0 then 2 else 0) +
    (if (byteAt ps 12).getLsbD 1 then 4 else 0) ∧ (byteAt ps 12).toNat ≤ 3) ∧
  (identityAt ps 0 ≠ 0 ∧ identityAt ps 0 ≠ 0xFFFFFFFFFFFF) ∧
  (byteAt ps 6).toNat ≤ 15 ∧ (byteAt ps 7).toNat ≤ 7 ∧
  ((byteAt ps 12).getLsbD 0 = true → (halfAt ps 13).toNat ≤ 1023)

/-- The slot an enrolment takes: the FREE slot named, or the lowest FREE slot (R8). -/
def State.EnrolTakes (s : State) (ps : List Byte) (i : Slot) : Prop :=
  s.isFree i = true ∧
    if (byteAt ps 12).getLsbD 0 then (halfAt ps 13).toNat = i.val
    else ∀ j, j < i → s.isFree j = false

/-- The low level override an enrolment gives (R15, R195). -/
def enrolOverride (ps : List Byte) : Option Credit :=
  if (byteAt ps 12).getLsbD 1 then
    some (if (byteAt ps 12).getLsbD 0 then wordAt ps 15 else wordAt ps 13)
  else none

/-- The image an enrolment leaves: the record of step 3 of R16, low armed by comparison (step 4), and
the state by one evaluation (step 5). -/
def State.imageEnrolled (s : State) (ps : List Byte) (c : ClassNo) (g : GroupNo) : AccountImage :=
  let written : AccountImage :=
    { state := .active
      identity := identityAt ps 0
      suspended := false
      tariffClass := c
      group := g
      balance := wordAt ps 8
      consumption := 0
      lowOverride := enrolOverride ps
      lowArmed := false
      lastSequence := none
      lastLine := none
      lastTime := none
      reportCount := 0
      gapCount := 0 }
  let armed : AccountImage := { written with lowArmed := !s.tariff.belowLow written }
  { armed with state := s.tariff.evaluated s.supv.gracePeriod armed }

/-- The group a NOTICE_FETCH chooses: the one numbered, or for FFh the lowest-numbered RAISED group of
priority HIGH, or of priority LOW when no HIGH group is RAISED (R137). -/
def State.Chooses (s : State) (b : Byte) (g : GroupNo) : Prop :=
  b.toNat = g.val ∨
    b = 0xFF ∧ s.notices.groups[g].state = .raised ∧
      (∀ h : GroupNo, h < g → s.notices.groups[h].state = .raised →
        s.notices.groups[h].priority ≠ s.notices.groups[g].priority) ∧
      (s.notices.groups[g].priority = .low →
        ∀ h : GroupNo, s.notices.groups[h].state = .raised →
          s.notices.groups[h].priority ≠ .high)

/-- The slot a fetch from group `g` finds: the lowest whose account belongs to the group and has a
kind pending that the mask enables (R138). -/
def State.Finds (s : State) (g : GroupNo) (i : Slot) : Prop :=
  let qualifies := fun j : Slot => s.isFree j = false ∧ (s.account j).image.group = g ∧
    (s.account j).pending &&& s.notices.groups[g].mask ≠ 0
  qualifies i ∧ ∀ j, j < i → ¬qualifies j

/-- The state moves that a command can make inside one grant (R6). -/
def AccountState.moves (c : Instr) (old new : AccountState) : Prop :=
  match c with
  | .enrol => old = .free ∧ (new = .active ∨ new = .grace ∨ new = .held)
  | .retire => (old = .active ∨ old = .grace ∨ old = .held) ∧ new = .closing
  | .noticeFetch => old = .closing ∧ new = .free
  | .purge => old ≠ .free ∧ new = .free
  | .graceExpiry => old = .grace ∧ new = .held
  | .reportGrant (.work _) | .adjust | .setClass | .setLow | .unsuspend =>
    old = .active ∧ (new = .grace ∨ new = .held) ∨ (old = .grace ∨ old = .held) ∧ new = .active
  | _ => False

/-! ### SPI transactions -/

/-- The transaction that a piece belongs to, as the piece finds it: the one it opens, with the status
bytes captured, or the one under way; none where there is no such event or a pin reset is held (R178,
R179, R182). -/
def State.spiOf (s : State) (first : Byte) (piece : SpiPiece) : Option Spi :=
  if s.resetHeld then none
  else
    match s.port.spi with
    | none =>
      if piece.opens then some { first := first, status := s.statusBytes, ended := false } else none
    | some x => if piece.opens = false ∧ x.first = first then some x else none

/-- Port `q` after a piece of transaction `x` in which MISO gave the bytes `sent`: CS_N has risen where
the piece ends, and the bits that were sent of a byte cut off are those of `next` (R179). -/
def State.carried (s : State) (piece : SpiPiece) (q : Port) (x : Spi) (sent : List Byte)
    (next : Byte) : Port :=
  { q with
    spi := if piece.ends = none then some x else none
    miso := (if piece.opens then [0x00] else s.port.miso) ++ sent
    misoBits :=
      match piece.ends with
      | none => if piece.opens then [] else s.port.misoBits
      | some n => (List.range n.val).map fun i => next.getLsbD (7 - i) }

/-- A piece cuts off a byte whose first bit has been sent. -/
def SpiPiece.cuts (piece : SpiPiece) : Bool := piece.ends.any fun n => n != 0

/-! ### Formats -/

/-- The result codes, as R191 lists them. -/
def resultTable : List (Result × Byte) :=
  [(.ok, 0x00), (.started, 0x01), (.none, 0x02), (.badParam, 0x10), (.noAccount, 0x11),
   (.duplicate, 0x12), (.tableFull, 0x13), (.indexFull, 0x14), (.wrongState, 0x15), (.range, 0x16),
   (.busy, 0x17), (.noSnapshot, 0x18), (.snapshotActive, 0x19), (.absent, 0x1A), (.notFound, 0x1B),
   (.stagedInvalid, 0x1C), (.lineActive, 0x1D), (.slotTaken, 0x1E), (.fault, 0x20)]

/-- The register of the CRC after one bit (step 3 of R27). -/
def crcShift (register : Half) (bit : Bool) : Half :=
  if bit = register.getLsbD 15 then register <<< 1 else register <<< 1 ^^^ 0x1021

/-- The bits of a byte, the most significant first. -/
def msbFirst (b : Byte) : List Bool := (List.range 8).map fun i => b.getLsbD (7 - i)

/-- The bytes of a field of `n` bytes, the most significant first (0.5). -/
def bytesOf (n v : Nat) : List Byte :=
  (List.range n).map fun i => BitVec.ofNat 8 (v / 256 ^ (n - 1 - i))

/-! ### Captures -/

/-- Slot `i` of the snapshot `sn` has been captured as the record `r` stood, and the totals hold it:
what a capture leaves (R150). -/
structure Snapshot.Captured (old sn : Snapshot) (i : Slot) (r : Record) : Prop where
  shadow : sn.shadow i = { captured := true, fields := r.shadowFields }
  others : ∀ j, j ≠ i → sn.shadow j = old.shadow j
  present : sn.present = old.present + (if r.image.state = .free then 0 else 1)
  consumption : sn.consumptionSum = old.consumptionSum +
    (if r.image.state = .free then 0 else r.image.consumption.setWidth 48)
  balance : sn.balanceSum = old.balanceSum +
    (if r.image.state = .free then 0 else r.image.balance.signExtend 48)
  rest : sn.state = old.state ∧ sn.id = old.id ∧ sn.cutStamp = old.cutStamp ∧
    sn.cursor = old.cursor

/-! ### Resets -/

/-- What every block holds after a reset, value by value, as its own chapter gives it (R3, R5, R11,
R29, R30, R42, R49, R67, R73, R82, R87, R96, R109, R115, R120, R121, R125, R134, R136, R148, R164,
R178). -/
structure State.ResetContents (t : State) : Prop where
  records : ∀ i, t.account i = { image := .free, silent := false, pending := 0, dirty := false }
  occupancy : t.occupancy = 0 ∧ t.highWater = 0
  rotation : t.rotation = .line 0
  ways : ∀ (b : Fin 256) (w : Fin 4), (t.index.bucket b)[w] = none
  spill : t.index.spill = []
  live : ∀ (c : ClassNo) (b : Fin 4), t.tariff.live[c].price[b] = 0 ∧
    t.tariff.live[c].low.toInt = 0 ∧ t.tariff.live[c].hold.toInt = -1 ∧
    t.tariff.live[c].resume.toInt = 0
  staged : t.tariff.staged = t.tariff.live
  band : t.tariff.band = 0
  lines : ∀ n : LineNo, t.lines[n].mode = .disabled ∧ t.lines[n].rate = .r9600 ∧
    t.lines[n].window.toNat = 40 ∧ t.lines[n].receiver = .off ∧ t.lines[n].transmitter = none ∧
    t.lines[n].slots = [] ∧ t.lines[n].counters = .zero
  discovery : t.discovery.entries = [] ∧ t.discovery.overflow = 0 ∧ t.discovery.policy = .hold
  uptime : t.supv.uptime = 0
  limits : t.supv.silenceLimit = 0 ∧ t.supv.gracePeriod = 0
  lists : t.supv.silence = [] ∧ t.supv.grace = []
  marks : t.supv.silenceMark = false ∧ t.supv.graceMark = false
  groups : ∀ g : GroupNo, t.notices.groups[g].mask = 0x7F ∧ t.notices.groups[g].priority = .low ∧
    t.notices.groups[g].state = .quiet ∧ ∀ k : Fin 7, t.notices.groups[g].count[k] = 0
  enable : t.notices.enable = false
  snapshot : t.snapshot.state = .idle ∧ t.snapshot.id = 0 ∧ t.snapshot.cutStamp = 0 ∧
    t.snapshot.cursor = 0 ∧ t.snapshot.present = 0 ∧ t.snapshot.consumptionSum = 0 ∧
    t.snapshot.balanceSum = 0
  shadows : ∀ i, t.snapshot.shadow i = { captured := false, fields := none }
  store : t.store.state = .start ∧ t.store.mode = .full ∧ t.store.generation = 0 ∧
    t.store.cursor = 2 ∧ t.store.inProgress = none ∧ t.store.claim = none ∧
    t.store.verifyFailures = 0 ∧ t.store.pagesWritten = 0 ∧ t.store.restored = .zero
  port : t.port.state = .start ∧ t.port.cause = .none ∧ t.port.faultResponse = false ∧
    t.port.underrun = false ∧ t.port.requests = [] ∧ t.port.responses = [] ∧
    t.port.executing = none

/-- The array after a reset: every page but the one in progress is kept; a page in its verify is kept
too; a page whose erase or program was cut off holds what it held, or is damaged, or holds what that
step would have left (R160, R173). -/
structure Store.ArrayKept (st st' : Store) : Prop where
  idle : ∀ p : Fin 66, (∀ w, st.inProgress = some w → w.page ≠ p) → st'.array[p] = st.array[p]
  verifying : ∀ w, st.inProgress = some w → w.phase = .verifying →
    st'.array[w.page] = st.array[w.page]
  erasing : ∀ w, st.inProgress = some w → w.phase = .erasing →
    st'.array[w.page] = st.array[w.page] ∨ st'.array[w.page] = .damaged ∨
      st'.array[w.page] = .erased
  programming : ∀ w, st.inProgress = some w → w.phase = .programming →
    st'.array[w.page] = st.array[w.page] ∨ st'.array[w.page] = .damaged ∨
      st'.array[w.page] = st.latch

/-- The port as the end of a start-up leaves it: READY, or FAULT when an OVERFLOW arose in START
(R178, R180). -/
def Port.started (p : Port) : Port :=
  if p.cause = .overflow then { p with state := .fault }
  else { p with state := .ready, opened := true }

/-- Page `n` of the array is accepted as what its number says: correct CRC, page kind and page number
(R163, R175). -/
def Page.acceptedAs (p : Page) (n : Fin 66) : Bool :=
  match p with
  | .erased | .damaged => false
  | .written body number _ good =>
    number == n.val && good &&
      match body with
      | .header _ => n.val == 0
      | .settings _ => n.val == 1
      | .account _ => decide (2 ≤ n.val)

/-- A page has the generation `g`. -/
def Page.hasGeneration (p : Page) (g : Half) : Bool :=
  match p with
  | .erased | .damaged => false
  | .written _ _ generation _ => generation == g

/-- The image that an accepted account page holds for a slot (R160, R175). -/
def State.storedAt (s : State) (i : Slot) : Option StoredImage :=
  let n : Fin 66 := ⟨i.val / 16 + 2, by omega⟩
  match s.store.array[n] with
  | .written (.account v) _ _ _ =>
    if s.store.array[n].acceptedAs n then some (v[i.val % 16]'(by omega)) else none
  | _ => none

/-- An image's fields are in the ranges that R176 asks of a non-FREE image. -/
def StoredImage.inRange (m : StoredImage) : Bool :=
  m.identity != 0 && m.identity != 0xFFFFFFFFFFFF && decide (m.tariffClass.toNat ≤ 15) &&
    decide (m.group.toNat ≤ 7) && m.lastLine.all fun b => decide (b.toNat ≤ 3)

/-- A slot below `i` is non-FREE in `t` with the identity `id` (R176). -/
def State.heldBelow (t : State) (i : Slot) (id : Identity) : Bool :=
  allSlots.any fun j => decide (j < i) && !t.isFree j && (t.account j).image.identity == id

/-- How many slots below `i` are non-FREE in `t` with an identity of bucket `b`. -/
def State.crowdBelow (t : State) (i : Slot) (b : Fin 256) : Nat :=
  allSlots.countP fun j => decide (j < i) && !t.isFree j &&
    bucketOf (t.account j).image.identity == b

/-- The identities of the slots below `i` leave no room for one more of bucket `b`: its four ways are
taken, and so are the sixteen places of the spill list, one for each identity beyond the fourth of its
bucket (R33, R38). -/
def State.noRoomBelow (t : State) (i : Slot) (b : Fin 256) : Bool :=
  decide (4 ≤ t.crowdBelow i b) &&
    decide (16 ≤ ((List.finRange 256).map fun c => t.crowdBelow i c - 4).sum)

/-- Account page `k` is accepted at a start-up and holds the images `v` (R175). -/
def State.Accepts (s : State) (k : Fin 64) (v : Vector StoredImage 16) : Prop :=
  ∃ g, s.store.array[k.val + 2] = .written (.account v) (k.val + 2) g true

/-! ### Lines -/

/-- `s` with line `n` as given. -/
def State.withLine (s : State) (n : LineNo) (l : Line) : State := { s with lines := s.lines.set n l }

/-- The line with a counter changed. -/
def Line.counted (l : Line) (f : LineCounters → LineCounters) : Line :=
  { l with counters := f l.counters }

/-! ### Reports -/

/-- Line `n` is granted for its oldest WAITING report `r`, which stands between `pre` and `post`
(R75). -/
def State.GrantsReport (s : State) (n : LineNo) (pre : List RxSlot) (r : RxSlot)
    (post : List RxSlot) : Prop :=
  s.granted = some (.line n) ∧ s.lines[n].slots = pre ++ r :: post ∧ r.state = .waiting ∧
    ∀ q ∈ pre, q.state ≠ .waiting

/-- The image that a report taken leaves, in the order of R101: last-report fields, counts, debit,
low armed, state. -/
def State.imageTaken (s : State) (a : AccountImage) (line : LineNo) (sequence : Byte) (usage : Half)
    (gap : Bool) : AccountImage :=
  let heard : AccountImage :=
    { a with
      lastSequence := some sequence
      lastLine := some line
      lastTime := some s.supv.calendar
      reportCount := satInc16 a.reportCount
      gapCount := if gap then satInc8 a.gapCount else a.gapCount }
  let charged : AccountImage :=
    { heard with
      balance := debited a.balance (debitOf usage (s.tariff.classOf a).price[s.tariff.band])
      consumption := a.consumption + usage.setWidth 32 }
  let checked : AccountImage := { charged with lowArmed := !s.tariff.belowLow charged }
  { checked with state := s.tariff.evaluated s.supv.gracePeriod checked }

/-- The kinds that a report taken sets (R103): GAP in the gap case, LOW where low armed falls, and the
kind of the move. -/
def State.kindsTaken (s : State) (a : AccountImage) (line : LineNo) (sequence : Byte) (usage : Half)
    (gap : Bool) : KindSet :=
  let after := s.imageTaken a line sequence usage gap
  (if gap then NoticeKind.bit .gap else 0) |||
    (if a.lowArmed = true ∧ after.lowArmed = false then NoticeKind.bit .low else 0) |||
    moveKind a.state after.state

/-- The silence list after a report or a duplicate of account `i`, which stands in state `st` after
it (R102). -/
def Supervision.heardFrom (v : Supervision) (i : Slot) (st : AccountState) : Supervision :=
  if st.isOpen then v.joinSilence i else v

/-! ### Invariants -/

/-- The sparse maps stand in their canonical form. -/
structure State.TablesCanonical (s : State) : Prop where
  table : Sparse.wf Record.free s.table
  shadows : Sparse.wf Shadow.blank s.snapshot.shadows
  buckets : Sparse.wf Bucket.empty s.index.buckets

/-- Between a reset and its start-up every block stands at its reset value, whatever the outside
sends (R5, R13, R41, R92, R131, R147, R159, R174, R178). -/
structure State.AtReset (s : State) : Prop where
  table : s.table = []
  occupancy : s.occupancy = 0
  highWater : s.highWater = 0
  rotation : s.rotation = .line 0
  index : s.index = .reset
  tariff : s.tariff = .reset
  lines : s.lines = Vector.replicate 4 .reset
  discovery : s.discovery = .reset
  lists : s.supv.silence = [] ∧ s.supv.grace = []
  marks : s.supv.silenceMark = false ∧ s.supv.graceMark = false
  limits : s.supv.silenceLimit = 0 ∧ s.supv.gracePeriod = 0
  notices : s.notices = .reset
  snapshot : s.snapshot = .reset
  storeWork : s.store.inProgress = none ∧ s.store.claim = none ∧ s.store.rewrite = []
  restored : s.store.restored = .zero
  port : s.port.state = .start ∧ s.port.opened = false ∧ s.port.executing = none ∧
    s.port.responses = []

/-- In the store's START state the part is as its reset left it; while a pin reset is held, the queues are
empty, no transaction is under way, both counters stand at 0 and RDY is released (R115, R178, R183). -/
structure State.StartIsReset (s : State) : Prop where
  atReset : s.store.state = .start → s.AtReset
  held : s.resetHeld = true → s.store.state = .start ∧ s.port.requests = [] ∧ s.port.spi = none ∧
    s.supv.uptime = 0 ∧ s.supv.calendar = 0 ∧ s.rdy = false

/-- A line keeps its own rules: at most two slots (R73); discard only on one that is IN_TABLE (R73); the
receiver is OFF exactly on a DISABLED line and MUTED exactly while a reply is sent on another (R70, R72);
a frame in progress holds 1..11 bytes, or none while its first character arrives; one slot is SENDING
exactly while the transmitter sends, and its frame has thirteen bytes (R69, R80); one READY slot, if
there is any, is first in return order (R73); and a DISABLED line holds no slot but one that is SENDING
and one that is IN_TABLE and marked for discard (R83). -/
structure Line.Ok (l : Line) : Prop where
  two : l.slots.length ≤ 2
  discards : ∀ r ∈ l.slots, r.discard = true → r.isInTable = true
  off : l.receiver = .off ↔ l.mode = .disabled
  muted : l.receiver = .muted ↔ l.mode ≠ .disabled ∧ l.lde = true
  frame : ∀ bytes phase, l.receiver = .assembling bytes phase →
    bytes.length ≤ 11 ∧ (bytes = [] → ∃ start, phase = .character start)
  sending : l.slots.countP RxSlot.isSending = if l.lde then 1 else 0
  reply : ∀ t, l.transmitter = some t → t.frame.length = 13
  first : l.slots.countP RxSlot.isFirstReady = if l.slots.any RxSlot.isReady then 1 else 0
  disabled : l.mode = .disabled → ∀ r ∈ l.slots, r.isSending = true ∨
    r.isInTable = true ∧ r.discard = true

/-- Every line keeps its rules, and of all receive slots at most one is IN_TABLE (R75). -/
structure State.LinesOk (s : State) : Prop where
  each : ∀ n : LineNo, s.lines[n].Ok
  oneGrant : ((List.finRange 4).map fun n => s.lines[n].slots.countP RxSlot.isInTable).sum ≤ 1

/-- The queues of the port keep their room (R180, R181), and a request in execution finds 64 free
bytes for its response (R185, R186). -/
structure State.QueuesOk (s : State) : Prop where
  requests : s.port.requests.length ≤ 256
  responses : s.port.responses.length ≤ 512
  room : s.port.executing ≠ none → s.port.responses.length + 64 ≤ 512

/-- Every entry of the index, ways first. -/
def Index.entries (ix : Index) : List IndexEntry :=
  ((List.finRange 256).flatMap fun b => wayNumbers.filterMap fun w => (ix.bucket b)[w]) ++
    ix.spill.map fun e => { identity := e.identity, slot := e.slot }

/-- The index and the table agree (R7, R28, R29, R30). -/
structure State.IndexAgrees (s : State) : Prop where
  /-- exactly one entry for each non-FREE slot, none for a FREE one -/
  once : ∀ i, (s.index.entries.countP fun e => e.slot == i) = if s.isFree i then 0 else 1
  same : ∀ e ∈ s.index.entries, (s.account e.slot).image.identity = e.identity
  valid : ∀ i, s.isFree i = false → validIdentity (s.account i).image.identity = true
  unique : ∀ i j, s.isFree i = false → s.isFree j = false →
    (s.account i).image.identity = (s.account j).image.identity → i = j
  inBucket : ∀ b w e, (s.index.bucket b)[(w : Fin 4)] = some e → bucketOf e.identity = b
  spillBucket : ∀ e ∈ s.index.spill, e.bucket = bucketOf e.identity
  spillFull : ∀ e ∈ s.index.spill, ∀ w : Fin 4, (s.index.bucket e.bucket)[w] ≠ none
  spillRoom : s.index.spill.length ≤ 16

/-- Occupancy is the number of non-FREE slots and stands below the high-water mark (R9). -/
structure State.OccupancyAgrees (s : State) : Prop where
  occupancy : s.occupancy = allSlots.countP fun i => !s.isFree i
  belowMark : s.occupancy ≤ s.highWater
  mark : s.highWater ≤ 1024

/-- A FREE slot holds the contents of R3. -/
def State.FreeIsClean (s : State) : Prop :=
  ∀ i, s.isFree i = true → s.account i = { Record.free with dirty := (s.account i).dirty }

/-- The silence and grace lists agree with the records (R118). -/
structure State.ListsAgree (s : State) : Prop where
  grace : ∀ i, (∃ e ∈ s.supv.grace, e.slot = i) ↔ (s.account i).image.state = .grace
  silence : ∀ i, (∃ e ∈ s.supv.silence, e.slot = i) ↔
    (s.account i).image.state.isOpen = true ∧ (s.account i).silent = false
  graceOnce : (s.supv.grace.map fun e => e.slot).Nodup
  silenceOnce : (s.supv.silence.map fun e => e.slot).Nodup
  graceOrder : s.supv.grace.Pairwise fun e f => e.time.toNat ≤ f.time.toNat
  silenceOrder : s.supv.silence.Pairwise fun e f => e.time.toNat ≤ f.time.toNat
  graceTimes : ∀ e ∈ s.supv.grace, e.time.toNat ≤ s.supv.uptime.toNat
  silenceTimes : ∀ e ∈ s.supv.silence, e.time.toNat ≤ s.supv.uptime.toNat

/-- The counts agree with the records, CLOSED is pending only on CLOSING accounts, and no QUIET group
is left eligible (R132, R133, R135). -/
structure State.NoticesAgree (s : State) : Prop where
  counts : ∀ g k, s.notices.groups[(g : GroupNo)].count[(k : Fin 7)] =
    allSlots.countP fun i => !s.isFree i && (s.account i).image.group == g &&
      KindSet.has (s.account i).pending k
  closed : ∀ i, KindSet.has (s.account i).pending NoticeKind.closed.number = true →
    (s.account i).image.state = .closing
  quiet : ∀ g : GroupNo, s.notices.groups[g].state = .quiet → s.notices.groups[g].eligible = false

/-- The discovery list holds at most eight entries of different valid identities, and none that a
non-FREE slot holds (R109, R111). -/
structure State.DiscoveryAgrees (s : State) : Prop where
  room : s.discovery.entries.length ≤ 8
  once : (s.discovery.entries.map fun e => e.identity).Nodup
  valid : ∀ e ∈ s.discovery.entries, validIdentity e.identity = true
  unknown : ∀ e ∈ s.discovery.entries, ∀ i, s.isFree i = false →
    (s.account i).image.identity ≠ e.identity

/-- The fields of the present shadows, in slot order (R150). -/
def Snapshot.presentFields (sn : Snapshot) : List ShadowFields :=
  allSlots.filterMap fun i => (sn.shadow i).fields

/-- The totals are the sums over the present shadows; what is uncaptured is absent; the sweep has
captured every slot below its cursor; in READY every slot is captured (R150, R151, R153). -/
structure Snapshot.Agrees (sn : Snapshot) : Prop where
  present : sn.present = sn.presentFields.length
  consumption : sn.consumptionSum =
    (sn.presentFields.map fun f => f.consumption.setWidth 48).foldl (· + ·) 0
  balance : sn.balanceSum =
    (sn.presentFields.map fun f => f.balance.signExtend 48).foldl (· + ·) 0
  absent : ∀ i, (sn.shadow i).captured = false → (sn.shadow i).fields = none
  swept : sn.state ≠ .idle → ∀ i : Slot, i.val < sn.cursor → (sn.shadow i).captured = true
  sweeping : sn.state = .sweeping → sn.cursor % 16 = 0 ∧ sn.cursor < 1024
  ready : sn.state = .ready → sn.cursor = 1024

/-- The state of the store, its claim and its page in progress agree (R164 to R171). -/
structure Store.Ok (st : Store) : Prop where
  rest : st.state = .start ∨ st.state = .idle → st.claim = none ∧ st.inProgress = none
  checkpoint : st.state = .checkpoint → (st.claim.isSome = true ↔ st.inProgress = none)
  aborting : st.state = .aborting → st.claim = none ∧ st.inProgress.isSome = true
  wiping : st.state = .wiping → st.claim = none ∧
    ∃ p, st.inProgress = some { page := p, phase := .erasing }
  cursor : 2 ≤ st.cursor ∧ st.cursor ≤ 66
  rewrite : st.rewrite.Pairwise fun j k => j < k

/-- Every class has its resume level above its hold level (R43). -/
def classesOk (v : Vector TariffClass 16) : Prop :=
  ∀ c : ClassNo, v[c].hold.toInt < v[c].resume.toInt

/-- A page that holds settings holds classes that a commit let through. -/
def Page.TariffOk (p : Page) : Prop :=
  ∀ x number generation good, p = .written (.settings x) number generation good → classesOk x.live

/-- The live tariffs, and those that a start-up could load, have their resume levels above their
hold levels (R43). -/
structure State.TariffsOk (s : State) : Prop where
  live : classesOk s.tariff.live
  array : ∀ p : Fin 66, s.store.array[p].TariffOk
  latch : ∀ w, s.store.inProgress = some w →
    (s.store.state = .wiping ∧ w.phase = .erasing) ∨ s.store.latch.TariffOk

/-- The invariants that lean on one another: the account table, the index, the discovery list, the time
lists, the notice counts and the reset values of the part. -/
structure State.Sound (s : State) : Prop where
  fresh : s.StartIsReset
  clean : s.FreeIsClean
  index : s.IndexAgrees
  occupancy : s.OccupancyAgrees
  discovery : s.DiscoveryAgrees
  lists : s.ListsAgree
  notices : s.NoticesAgree

end Sys2Proof.Machine
end

