-- ==== Sys2Proof/Certificates/Slice0/Obligations.lean ====
section
/-! DEFINITION. The statements for the provers, chapter by chapter. A statement of a command's effect
says, for every state and operands that meet its hypotheses, which next state the command answers;
`{ s with … }` says that every other field of the state is unchanged. -/

open Sys2Proof Sys2Proof.Machine

/-! ### One step -/

/-- One step carries out the command at the front of the queue on the state with the queue's rest; on
an empty queue the part idles, which is the model's choice (log 3). -/
def Obligations.StepRunsTheFrontCommand : Prop :=
  ∀ (s : State),
    (∀ (c : Instr) (rest : List Instr), s.pending = c :: rest →
      step s = exec c { s with pending := rest }) ∧
    (s.pending = [] → step s = .next s)

/-- Every command answers a next state in every state, and leaves the queue of commands to the step. A
grant of a claimant that the arbiter does not grant, the return of a result to a line that waits for none,
and a request command whose request is not in execution or not granted the table it needs, leave the state
as it is: the model's choice (log 1, log 15). -/
def Obligations.EveryCommandGoesOn : Prop :=
  (∀ (c : Instr) (s : State), ∃ t, exec c s = .next t ∧ t.pending = s.pending) ∧
  (∀ (c : Instr) (s : State) k, Instr.claimant? c = some k → s.granted ≠ some k →
    exec c s = .next s) ∧
  (∀ (n : LineNo) (s : State), (∀ r ∈ s.lines[n].slots, ∀ result, r.state ≠ .inTable result) →
    exec (.reportGrant (.result n)) s = .next s) ∧
  (∀ q c, (q, c) ∈ requestCommands → ∀ s : State,
    ((∀ r, s.port.executing = some r → r.req ≠ q) → exec c s = .next s) ∧
    (q ∈ grantRequests → s.granted ≠ some .exec → exec c s = .next s))

/-- The arbiter grants a claimant exactly when the part is in service, the table is free, the claimant
holds a claim by the table of R10, and the search from the rotation position comes to no other claimant
with a claim before it. After a grant, whatever its command, the rotation position is the claimant after
the one granted: of a line, of SWEEP, of EXEC for each request of R186, of CAPT for one of its two
captures, and of SUPV for one of its two expiries where no mark stands on an empty list. Outside resets no
other command moves it. That a claim is read from the state of its block, and grants wait for the first
READY, is the model's reading (log 15, log 16). -/
def Obligations.ArbiterGrantsInRotation : Prop :=
  (∀ (s : State) (c : Claimant), s.granted = some c ↔
    s.port.opened = true ∧ s.TableFree ∧ s.Claims c ∧
      ∀ d, s.Claims d → Claimant.passed s.rotation c ≤ Claimant.passed s.rotation d) ∧
  (∀ c : Claimant, c.after.place = (c.place + 1) % 8) ∧
  (∀ c d : Claimant, c.place = d.place → c = d) ∧
  (∀ s : State,
    let turns := fun (c : Instr) (k : Claimant) => ∃ t, exec c s = .next t ∧ t.rotation = k.after
    (∀ n, s.granted = some (.line n) → turns (.reportGrant (.work n)) (.line n)) ∧
    (s.granted = some .sweep → turns .sweepStep .sweep) ∧
    (s.granted = some .capt → turns .settingsPageCapture .capt ∨ turns .accountPageCapture .capt) ∧
    (s.granted = some .supv → (s.supv.silenceMark = true → s.supv.silence ≠ []) →
      (s.supv.graceMark = true → s.supv.grace ≠ []) →
      turns .silenceExpiry .supv ∨ turns .graceExpiry .supv) ∧
    (∀ q c r, (q, c) ∈ requestCommands → q ∈ grantRequests → s.granted = some .exec →
      s.port.executing = some r → r.req = q → turns c .exec)) ∧
  (∀ (c : Instr) (s t : State), exec c s = .next t → c ≠ .partReset →
    (∀ event mode, c ≠ .pinReset event mode) →
    t.rotation = s.rotation ∨ ∃ k, s.granted = some k ∧ t.rotation = k.after ∧
      (Instr.claimant? c = some k ∨
        k = .exec ∧ ∃ q, (q, c) ∈ requestCommands ∧ q ∈ grantRequests))

/-! ### Resets and start-up -/

/-- A pin reset that is driven sets every block to its reset value, the calendar with them, and holds the
part there with no transaction under way; its release takes the start mode from STARTMODE and changes
nothing else. A valid PART_RESET sets every block to its reset value but the calendar, takes the start
mode from the request, and ends a transaction under way; a PART_RESET with another start mode is
answered BAD_PARAM. A drive of RESET_N that is low already, and a release without a drive, are no events
(log 1, log 13). -/
def Obligations.ResetSetsEveryBlock : Prop :=
  (∀ event mode (s : State), event = .powerApplied ∨ event = .resetDriven ∧ s.resetHeld = false →
    ∃ t, exec (.pinReset event mode) s = .next t ∧ t.ResetContents ∧
      t.supv.calendar = 0 ∧ t.resetHeld = true ∧ t.port.spi = none ∧ t.pending = s.pending) ∧
  (∀ (s : State) mode, s.resetHeld = true →
    exec (.pinReset .released mode) s =
      .next { s with resetHeld := false, store := { s.store with startMode := mode } }) ∧
  (∀ (s : State) mode, s.resetHeld = true → exec (.pinReset .resetDriven mode) s = .next s) ∧
  (∀ (s : State) mode, s.resetHeld = false → exec (.pinReset .released mode) s = .next s) ∧
  (∀ (s : State) r mode, s.Serving .partReset r → byteAt r.params 0 = startModeCode mode →
    ∃ t, exec .partReset s = .next t ∧ t.ResetContents ∧ t.supv.calendar = s.supv.calendar ∧
      t.store.startMode = mode ∧ t.resetHeld = s.resetHeld ∧
      t.port.spi = (s.port.spi.map fun x => { x with ended := true }) ∧
      t.port.miso = s.port.miso ∧ t.pending = s.pending) ∧
  (∀ (s : State) r, s.Serving .partReset r → 0x01 < (byteAt r.params 0).toNat →
    s.Refuses .partReset r .badParam)

/-- No reset changes a page of the array but the one in progress (what a cut-off erase or program
leaves is the model's choice of three outcomes, log 9); the last result is INTERRUPTED when store work
was under way and power stayed, and NONE otherwise. -/
def Obligations.ResetKeepsTheArray : Prop :=
  (∀ event mode (s : State), event = .powerApplied ∨ event = .resetDriven ∧ s.resetHeld = false →
    ∃ t, exec (.pinReset event mode) s = .next t ∧ s.store.ArrayKept t.store ∧
      t.store.lastResult =
        if event = .resetDriven ∧ (s.store.state = .checkpoint ∨ s.store.state = .aborting ∨
          s.store.state = .wiping) then .interrupted else .none) ∧
  (∀ (s : State) r mode, s.Serving .partReset r → byteAt r.params 0 = startModeCode mode →
    ∃ t, exec .partReset s = .next t ∧ s.store.ArrayKept t.store ∧
      t.store.lastResult =
        if s.store.state = .checkpoint ∨ s.store.state = .aborting ∨ s.store.state = .wiping then
          .interrupted else .none)

/-- A BLANK start-up takes generation and figures of a readable header and 0 otherwise, puts all 64
account pages in the rewrite set, sets the restore figures to 0 and opens the port; nothing else
changes. A page is structured, with its CRC agreement as a flag: the model's choice (log 8). No start-up
runs outside START or while a reset is held (log 1, log 13). -/
def Obligations.BlankStartUpOpensThePort : Prop :=
  (∀ s : State, s.store.state = .start → s.resetHeld = false → s.store.startMode = .blank →
    ∀ (generation : Half) (figures : HeaderFigures),
      (s.store.array[0] = .written (.header figures) 0 generation true ∨
        (∀ f g, s.store.array[0] ≠ .written (.header f) 0 g true) ∧ generation = 0 ∧
          figures = ⟨0, 0, 0⟩) →
      exec .startUp s = .next
        { s with
          store :=
            { s.store with
              state := .idle
              headerGeneration := generation
              headerFigures := figures
              rewrite := List.finRange 64
              restored := ⟨0, 0, 0, 0, 0⟩ }
          port := s.port.started }) ∧
  (∀ s : State, s.store.state ≠ .start ∨ s.resetHeld = true → exec .startUp s = .next s)

/-- A RESTORE start-up counts every page of the array that is accepted as what its number says as loaded,
and every other as lost; it counts as differing the accepted settings and account pages whose generation
is not the header generation; it loads every setting of an accepted settings page and keeps the reset
values without one, leaves the array and the clocks alone and opens the port. Pages are the model's
(log 8, log 28). -/
def Obligations.RestoreStartUpReadsThePages : Prop :=
  ∀ s : State, s.AtReset → s.resetHeld = false → s.store.state = .start →
    s.store.startMode = .restore →
    ∃ t, exec .startUp s = .next t ∧ t.store.state = .idle ∧ t.store.array = s.store.array ∧
      t.store.restored.loaded =
        ((List.finRange 66).countP fun n : Fin 66 => s.store.array[n].acceptedAs n) ∧
      t.store.restored.lost =
        ((List.finRange 66).countP fun n : Fin 66 => !s.store.array[n].acceptedAs n) ∧
      t.store.restored.differing = ((List.finRange 66).countP fun n : Fin 66 =>
        n != 0 && s.store.array[n].acceptedAs n &&
          !s.store.array[n].hasGeneration t.store.headerGeneration) ∧
      t.supv.uptime = s.supv.uptime ∧ t.supv.calendar = s.supv.calendar ∧
      t.port = s.port.started ∧ t.notices.enable = false ∧
      (∀ n : LineNo, t.lines[n].mode = .disabled) ∧
      (∀ f g, s.store.array[0] = .written (.header f) 0 g true →
        t.store.headerGeneration = g ∧ t.store.headerFigures = f) ∧
      ((∀ f g, s.store.array[0] ≠ .written (.header f) 0 g true) →
        t.store.headerGeneration = 0 ∧ t.store.headerFigures = ⟨0, 0, 0⟩) ∧
      (∀ x g, s.store.array[1] = .written (.settings x) 1 g true →
        t.tariff = { live := x.live, staged := x.live, band := x.band } ∧
        t.supv.gracePeriod = x.gracePeriod ∧ t.supv.silenceLimit = x.silenceLimit ∧
        t.discovery.policy = x.policy ∧
        (∀ k : GroupNo, (t.notices.groups[k].mask, t.notices.groups[k].priority) = x.groups[k]) ∧
        (∀ n : LineNo, (t.lines[n].rate, t.lines[n].window) = x.lines[n])) ∧
      ((∀ x g, s.store.array[1] ≠ .written (.settings x) 1 g true) →
        t.tariff = s.tariff ∧ t.supv.gracePeriod = 0 ∧ t.supv.silenceLimit = 0 ∧
        t.discovery.policy = .hold ∧
        (∀ k : GroupNo, t.notices.groups[k].mask = 0x7F ∧ t.notices.groups[k].priority = .low) ∧
        t.lines = s.lines)

/-- A RESTORE start-up places the image of an accepted page in its own slot exactly when it is non-FREE,
its fields are in range, no lower slot holds its identity and the index has room for it beside the lower
slots; a placed record is its image with SILENT no, dirty clear and no kind but CLOSED on a CLOSING
account; every other slot is FREE. The duplicates dropped are the images whose identity a lower slot
holds, and every other image dropped is unplaced; the rewrite set holds the lost pages and those that had
an image dropped; the lists hold the placed accounts in slot order with time 0; occupancy and high-water
mark are the number placed. Pages are the model's (log 8, log 17). -/
def Obligations.RestoreStartUpFillsTheTable : Prop :=
  ∀ s : State, s.AtReset → s.resetHeld = false → s.store.state = .start →
    s.store.startMode = .restore →
    ∃ t, exec .startUp s = .next t ∧
      (∀ i m, s.storedAt i = some m → (t.isFree i = false ↔
        m.state ≠ .free ∧ m.inRange = true ∧ t.heldBelow i m.identity = false ∧
          t.noRoomBelow i (bucketOf m.identity) = false)) ∧
      (∀ i m, s.storedAt i = some m → t.isFree i = false →
        (t.account i).image.stored = m ∧
        (t.account i).silent = false ∧ (t.account i).dirty = false ∧
        (t.account i).pending =
          if m.state = .closing then NoticeKind.bit .closed else 0) ∧
      (∀ i, s.storedAt i = none → t.isFree i = true) ∧
      (∀ i, t.isFree i = true → t.account i = Record.free) ∧
      t.store.restored.duplicates = (allSlots.countP fun i => (s.storedAt i).any fun m =>
        m.state != .free && m.inRange && t.heldBelow i m.identity) ∧
      t.store.restored.unplaced = (allSlots.countP fun i => (s.storedAt i).any fun m =>
        m.state != .free && t.isFree i && !(m.inRange && t.heldBelow i m.identity)) ∧
      (∀ k : Fin 64, k ∈ t.store.rewrite ↔
        (∀ v, ¬s.Accepts k v) ∨
          ∃ v, s.Accepts k v ∧
            ∃ j : Fin 16, v[j].state ≠ .free ∧ t.isFree (pageSlot k j) = true) ∧
      t.supv.silence = (allSlots.filter fun i => (t.account i).image.state.isOpen).map
        (fun i => { slot := i, time := 0 }) ∧
      t.supv.grace = (allSlots.filter fun i => (t.account i).image.state == .grace).map
        (fun i => { slot := i, time := 0 }) ∧
      t.occupancy = (allSlots.countP fun i => !t.isFree i) ∧ t.highWater = t.occupancy

/-! ### Time and supervision -/

/-- A second edge: uptime rises by one and stops at FFFFFFFFh, the calendar rises by one and wraps, and
once the part is in service (log 16) each list whose head is due gets its mark; nothing else
changes. While a pin reset is held there is no second edge (log 13). -/
def Obligations.SecondEdgeAdvancesAndTests : Prop :=
  (∀ s : State, s.resetHeld = true → exec .secondEdge s = .next s) ∧
  (∀ s : State, s.resetHeld = false → ∃ v, exec .secondEdge s = .next { s with supv := v } ∧
    v.uptime.toNat = min 0xFFFFFFFF (s.supv.uptime.toNat + 1) ∧
    v.calendar.toNat = (s.supv.calendar.toNat + 1) % 2 ^ 32 ∧
    v = { s.supv with
      uptime := v.uptime
      calendar := v.calendar
      silenceMark := v.silenceMark
      graceMark := v.graceMark } ∧
    (v.silenceMark = true ↔ s.supv.silenceMark = true ∨
      (s.port.opened = true ∧ s.supv.silenceLimit ≠ 0 ∧ ∃ e es, s.supv.silence = e :: es ∧
        e.time.toNat + s.supv.silenceLimit.toNat ≤ v.uptime.toNat)) ∧
    (v.graceMark = true ↔ s.supv.graceMark = true ∨
      (s.port.opened = true ∧ ∃ e es, s.supv.grace = e :: es ∧
        e.time.toNat + s.supv.gracePeriod.toNat ≤ v.uptime.toNat)))

/-- A SUPV grant whose silence head is marked, and is due before any marked grace head, takes it out of
the silence list, makes the account SILENT with the SILENT notice, leaves its image and dirty flag, and
tests both heads. -/
def Obligations.SilenceExpiryMakesTheHeadSilent : Prop :=
  ∀ (s : State) (e : TimedEntry) (es : List TimedEntry), s.granted = some .supv →
    s.supv.silenceMark = true → s.supv.silence = e :: es →
    (∀ g gs, s.supv.graceMark = true → s.supv.grace = g :: gs →
      e.time.toNat + s.supv.silenceLimit.toNat < g.time.toNat + s.supv.gracePeriod.toNat) →
    ∃ t, exec .silenceExpiry s = .next t ∧
      t.account e.slot = { s.account e.slot with
        silent := true
        pending := (s.account e.slot).pending ||| NoticeKind.bit .silent } ∧
      s.SameElsewhere t e.slot ∧
      t.snapshot = (s.copyBeforeWrite e.slot).snapshot ∧
      s.notices.Gained t.notices (s.account e.slot).image.group
        (NoticeKind.bit .silent &&& ~~~(s.account e.slot).pending) ∧
      t.supv = { s.supv with
        silence := es
        silenceMark := t.supv.silenceMark
        graceMark := t.supv.graceMark } ∧
      (t.supv.silenceMark = true ↔ s.supv.silenceLimit ≠ 0 ∧ ∃ h hs, es = h :: hs ∧
        h.time.toNat + s.supv.silenceLimit.toNat ≤ s.supv.uptime.toNat) ∧
      (t.supv.graceMark = true ↔ s.supv.graceMark = true ∨ ∃ g gs, s.supv.grace = g :: gs ∧
        g.time.toNat + s.supv.gracePeriod.toNat ≤ s.supv.uptime.toNat) ∧
      t = { s with
        table := t.table
        supv := t.supv
        notices := t.notices
        snapshot := t.snapshot
        rotation := .sweep }

/-- A SUPV grant whose grace head is marked, and is due no later than any marked silence head, takes it
out of the grace list and makes the account HELD with the HELD notice, whatever its balance, and tests
both heads. -/
def Obligations.GraceExpiryHoldsTheHead : Prop :=
  ∀ (s : State) (e : TimedEntry) (es : List TimedEntry), s.granted = some .supv →
    s.supv.graceMark = true → s.supv.grace = e :: es →
    (∀ h hs, s.supv.silenceMark = true → s.supv.silence = h :: hs →
      e.time.toNat + s.supv.gracePeriod.toNat ≤ h.time.toNat + s.supv.silenceLimit.toNat) →
    ∃ t, exec .graceExpiry s = .next t ∧
      s.Changed t e.slot { (s.account e.slot).image with state := .held } (NoticeKind.bit .held) ∧
      t.supv = { s.supv with
        grace := es
        silenceMark := t.supv.silenceMark
        graceMark := t.supv.graceMark } ∧
      (t.supv.graceMark = true ↔ ∃ g gs, es = g :: gs ∧
        g.time.toNat + s.supv.gracePeriod.toNat ≤ s.supv.uptime.toNat) ∧
      (t.supv.silenceMark = true ↔ s.supv.silenceMark = true ∨
        (s.supv.silenceLimit ≠ 0 ∧ ∃ h hs, s.supv.silence = h :: hs ∧
          h.time.toNat + s.supv.silenceLimit.toNat ≤ s.supv.uptime.toNat)) ∧
      t = { s with
        table := t.table
        supv := t.supv
        notices := t.notices
        snapshot := t.snapshot
        rotation := .sweep }

/-- SET_SILENCE takes 0 or 60..604800 and withdraws the silence mark; SET_GRACE takes every period and
withdraws the grace mark (R121 as log 19 reads it); SET_TIME sets the calendar; each answers the value
before; READ_TIME answers the six values. -/
def Obligations.TimeRequestsAnswer : Prop :=
  (∀ (s : State) r, s.Serving .setSilence r →
    ((wordAt r.params 0).toNat = 0 ∨
      60 ≤ (wordAt r.params 0).toNat ∧ (wordAt r.params 0).toNat ≤ 604800 →
      s.Answers .setSilence r
        { s with supv := { s.supv with silenceLimit := wordAt r.params 0, silenceMark := false } }
        (.ok (bytes32 s.supv.silenceLimit))) ∧
    (1 ≤ (wordAt r.params 0).toNat ∧ (wordAt r.params 0).toNat ≤ 59 ∨
      604800 < (wordAt r.params 0).toNat → s.Refuses .setSilence r .badParam)) ∧
  (∀ (s : State) r, s.Serving .setGrace r →
    s.Answers .setGrace r
      { s with supv := { s.supv with gracePeriod := halfAt r.params 0, graceMark := false } }
      (.ok (bytes16 s.supv.gracePeriod))) ∧
  (∀ (s : State) r, s.Serving .setTime r →
    s.Answers .setTime r { s with supv := { s.supv with calendar := wordAt r.params 0 } }
      (.ok (bytes32 s.supv.calendar))) ∧
  (∀ (s : State) r, s.Serving .readTime r →
    s.Answers .readTime r s
      (.ok (bytes32 s.supv.calendar ++ bytes32 s.supv.uptime ++ bytes32 s.supv.silenceLimit ++
        bytes16 s.supv.gracePeriod ++ num16 s.supv.silence.length ++ num16 s.supv.grace.length)))

/-- Joining a time list: the account leaves any place it has, the rest keep their order, and it stands at
the tail with the uptime. Leaving: its entry goes and the rest keep their order. The mark of a list is
withdrawn exactly when the account that leaves is its head. The other list and everything else in the
supervision unit stay. -/
def Obligations.TimeListsKeepTheirOrder : Prop :=
  ∀ (v : Supervision) (i : Slot),
    let others := fun es : List TimedEntry => es.filter fun e => decide (e.slot ≠ i)
    let atHead := fun es : List TimedEntry => es.head?.any fun e => decide (e.slot = i)
    v.leaveSilence i = { v with
      silence := others v.silence
      silenceMark := v.silenceMark && !atHead v.silence } ∧
    v.leaveGrace i = { v with
      grace := others v.grace
      graceMark := v.graceMark && !atHead v.grace } ∧
    v.joinSilence i = { v with
      silence := others v.silence ++ [{ slot := i, time := v.uptime }]
      silenceMark := v.silenceMark && !atHead v.silence } ∧
    v.joinGrace i = { v with
      grace := others v.grace ++ [{ slot := i, time := v.uptime }]
      graceMark := v.graceMark && !atHead v.grace } ∧
    (∀ pre e post, v.silence = pre ++ e :: post → e.slot = i →
      (∀ f ∈ pre ++ post, f.slot ≠ i) → others v.silence = pre ++ post) ∧
    (∀ pre e post, v.grace = pre ++ e :: post → e.slot = i →
      (∀ f ∈ pre ++ post, f.slot ≠ i) → others v.grace = pre ++ post)

/-! ### Meter lines -/

/-- Start bits, stop bits and gaps on a line. In LISTENING a start bit begins a frame, and the receiver is
ASSEMBLING from there, holding no byte until the character ends (log 26); a high stop bit adds the
character's byte; a low one abandons the frame. Between two characters a start bit begins the next, unless
more than two character times have passed: then the frame is a framing error and the start bit begins a
new one, which a low stop bit makes a second framing error. OFF and MUTED assemble nothing, and MUTED
counts a character as contention. Moments, and the wait for a high line after a low stop bit, are the
model's operands (log 5, log 21); that a stop bit without its start bit is no event is its choice
(log 1), and so is that a character in MUTED ends the wait and sets none, whatever its stop bit
(log 27). -/
def Obligations.ReceptionFollowsTheReceiver : Prop :=
  ∀ (s : State) (n : LineNo) (byte : Byte) (start : Moment) (highFor : Nat),
    let l := s.lines[n]
    let framing := fun c : LineCounters => { c with framingErrors := satInc16 c.framingErrors }
    let taken := l.awaitHigh = false ∨ l.rate.bitTicks ≤ highFor
    let startBit := fun t : State =>
      exec (.frameCharacterReceived n byte start (.startBit highFor)) s = .next t ∧
      exec (.framingError n start (.startBit highFor)) s = .next t
    let noStopBit :=
      exec (.frameCharacterReceived n byte start .stopBit) s = .next s ∧
      exec (.framingError n start .stopBit) s = .next s
    let noGap := exec (.frameGapTimeout n start) s = .next s
    let noContention := exec (.contentionCharacter n highFor) s = .next s
    (l.receiver = .listening →
      (taken → startBit (s.withLine n
        { l with receiver := .assembling [] (.character start), awaitHigh := false })) ∧
      (¬ taken → startBit s) ∧ noStopBit ∧ noGap ∧ noContention) ∧
    (∀ bytes ended, l.receiver = .assembling bytes (.gap ended) →
      (start ≤ ended + 2 * l.rate.charTicks →
        startBit (s.withLine n { l with receiver := .assembling bytes (.character start) }) ∧
        noGap) ∧
      (ended + 2 * l.rate.charTicks < start →
        exec (.frameGapTimeout n start) s =
          .next (s.withLine n { l.counted framing with receiver := .listening }) ∧
        (¬ taken → startBit (s.withLine n { l.counted framing with receiver := .listening })) ∧
        (taken → ∃ t, startBit t ∧
          t = s.withLine n { l.counted framing with
            receiver := .assembling [] (.character start), awaitHigh := false } ∧
          exec (.framingError n start .stopBit) t = .next (s.withLine n
            { (l.counted framing).counted framing with
              receiver := .listening, awaitHigh := true }))) ∧
      noStopBit ∧ noContention) ∧
    (∀ bytes begun, l.receiver = .assembling bytes (.character begun) →
      (start = begun →
        exec (.frameCharacterReceived n byte start .stopBit) s = .next
          (if bytes.length < 11 then s.withLine n
            { l with
              receiver := .assembling (bytes ++ [byte]) (.gap (start + l.rate.charTicks)) }
          else s) ∧
        exec (.framingError n start .stopBit) s = .next (s.withLine n
          { l.counted framing with receiver := .listening, awaitHigh := true })) ∧
      (start ≠ begun → noStopBit) ∧ startBit s ∧ noGap ∧ noContention) ∧
    (l.receiver = .off → startBit s ∧ noStopBit ∧ noGap ∧ noContention) ∧
    (l.receiver = .muted →
      startBit s ∧ noStopBit ∧ noGap ∧
      (taken → exec (.contentionCharacter n highFor) s = .next (s.withLine n
        { l.counted fun c => { c with contention := satInc16 c.contention } with
          awaitHigh := false })) ∧
      (¬ taken → noContention))

/-- The twelfth character completes the frame, and the first check that fails decides: CRC error, kind
error, overrun; a good report takes a slot with its deadline at the end of the report plus the window,
WAITING in MONITOR and ACTIVE, READY with the TEST content in ECHO. Where no twelfth character arrives
since that start bit, REPORT_FRAME is no event: the model's choice (log 1). -/
def Obligations.ReportFrameIsChecked : Prop :=
  (∀ (s : State) (n : LineNo) (byte : Byte) (start : Moment),
    (∀ bytes, s.lines[n].receiver = .assembling bytes (.character start) → bytes.length ≠ 11) →
    exec (.reportFrame n byte start) s = .next s) ∧
  ∀ (s : State) (n : LineNo) (byte : Byte) (start : Moment) (bytes : List Byte),
    s.lines[n].receiver = .assembling bytes (.character start) → bytes.length = 11 →
    let l : Line := { s.lines[n] with receiver := .listening }
    let frame := bytes ++ [byte]
    let done := start + l.rate.charTicks
    (crc16 (frame.take 10) ≠ halfAt frame 10 →
      exec (.reportFrame n byte start) s = .next (s.withLine n
        (l.counted fun c => { c with crcErrors := satInc16 c.crcErrors }))) ∧
    (crc16 (frame.take 10) = halfAt frame 10 → byteAt frame 0 ≠ 0xD1 →
      exec (.reportFrame n byte start) s = .next (s.withLine n
        (l.counted fun c => { c with kindErrors := satInc16 c.kindErrors }))) ∧
    (crc16 (frame.take 10) = halfAt frame 10 → byteAt frame 0 = 0xD1 → 2 ≤ l.slots.length →
      exec (.reportFrame n byte start) s = .next (s.withLine n
        (l.counted fun c => { c with overruns := satInc16 c.overruns }))) ∧
    (crc16 (frame.take 10) = halfAt frame 10 → byteAt frame 0 = 0xD1 → l.slots.length < 2 →
      exec (.reportFrame n byte start) s = .next (s.withLine n
        { l.counted fun c => { c with goodReports := satInc16 c.goodReports } with
          slots := l.slots ++
            [{ state :=
                 if l.mode = .echo then
                   .ready { command := .on, reason := .test, balanceClass := 0 }
                     (if l.slots.any RxSlot.isReady then .second else .first)
                 else .waiting
               identity := identityAt frame 1
               sequence := byteAt frame 7
               usage := halfAt frame 8
               ended := done
               deadline := done + l.window.toNat * 192
               late := false
               discard := false }] }))

/-- A passed deadline makes a WAITING or IN_TABLE slot LATE, drops a READY slot as late, after which
another READY slot is first in return order, and has no effect on a SENDING slot or an EMPTY one; a
deadline that has not passed has none either (moments: log 5; no effect: log 1). A result that returns to
its IN_TABLE slot has the effect of the first row of R76 that applies, in the mode and the slot state at
its return (the return is a command of its own: log 4). -/
def Obligations.DeadlineAndResultActOnASlot : Prop :=
  (∀ (s : State) (n : LineNo) (place : SlotPlace) (now : Moment),
    let l := s.lines[n]
    (∀ pre r post, l.slots = pre ++ r :: post → pre.length = slotIndex place →
      (r.deadline ≤ now → r.state = .waiting ∨ r.isInTable = true →
        exec (.replyDeadline n place now) s = .next (s.withLine n
          { l with slots := pre ++ { r with late := true } :: post })) ∧
      (r.deadline ≤ now → r.isReady = true →
        exec (.replyDeadline n place now) s = .next (s.withLine n
          { l.counted fun k => { k with lateReplies := satInc16 k.lateReplies } with
            slots :=
              if (pre ++ post).any RxSlot.isFirstReady then pre ++ post
              else (pre ++ post).map RxSlot.makeFirst })) ∧
      (r.isSending = true ∨ now < r.deadline →
        exec (.replyDeadline n place now) s = .next s)) ∧
    (l.slots.length ≤ slotIndex place → exec (.replyDeadline n place now) s = .next s)) ∧
  (∀ (s : State) (n : LineNo) pre r post result, s.lines[n].slots = pre ++ r :: post →
    r.state = .inTable result → (∀ q ∈ pre, q.isInTable = false) →
    let l := s.lines[n]
    let returned := fun l' : Line => exec (.reportGrant (.result n)) s = .next (s.withLine n l')
    let emptied : Line := { l with slots := pre ++ post }
    (r.discard = true → returned emptied) ∧
    (result = none → returned emptied) ∧
    (l.mode = .monitor → returned emptied) ∧
    (r.discard = false → l.mode = .active ∨ l.mode = .echo → ∀ c, result = some c →
      (r.late = true → returned
        (emptied.counted fun k => { k with lateReplies := satInc16 k.lateReplies })) ∧
      (r.late = false → returned { l with
        slots := pre ++
          { r with
            state :=
              .ready c (if (pre ++ post).any RxSlot.isReady then .second else .first) } :: post })))

/-- REPLY_START first drops every READY slot whose deadline has passed and counts it as late (log 22), after
which another READY slot is first in return order. Then the first READY slot starts when the transmitter
is idle, the line is not DISABLED, no frame is being assembled (from its first start bit on, log 26) and
two character times have passed since its report: the slot becomes SENDING, the receiver MUTED, and the
frame of R69 is sent for thirteen character times; otherwise nothing starts, and a frame in progress stays
as it is. When that time is over the slot is EMPTY and the reply is counted, and not before. While it is
sent LDEn is asserted and LTXn carries its characters back to back; at all other times LTXn is high.
Moments are operands (log 5). -/
def Obligations.ReplyStartsAndIsSent : Prop :=
  (∀ (s : State) (n : LineNo) (now : Moment),
    let l := s.lines[n]
    let overdue := fun q : RxSlot => q.isReady && decide (q.deadline < now)
    let kept := l.slots.filter fun q => !overdue q
    let d : Line :=
      { l.counted fun k => { k with
          lateReplies :=
            BitVec.ofNat 16 (min 65535 (k.lateReplies.toNat + l.slots.countP overdue)) } with
        slots := if kept.any RxSlot.isFirstReady then kept else kept.map RxSlot.makeFirst }
    (∀ pre post r c, d.slots = pre ++ r :: post → r.state = .ready c .first →
      (∀ q ∈ pre ++ post, q.isFirstReady = false) →
      l.transmitter = none → l.mode ≠ .disabled → l.receiver.isAssembling = false →
      r.ended + 2 * l.rate.charTicks ≤ now →
      exec (.replyStart n now) s = .next (s.withLine n
        { d with
          slots := pre.map RxSlot.makeFirst ++
            { r with state := .sending c } :: post.map RxSlot.makeFirst
          transmitter := some
            { frame :=
                [0xD2] ++ bytes48 r.identity ++ [r.sequence, c.command.code, c.reason.code] ++
                  num8 c.balanceClass.val ++
                  bytes16 (crc16 ([0xD2] ++ bytes48 r.identity ++
                    [r.sequence, c.command.code, c.reason.code] ++ num8 c.balanceClass.val))
              rate := l.rate
              endsAt := now + 13 * l.rate.charTicks }
          receiver := .muted })) ∧
    ((∀ q ∈ d.slots, q.isFirstReady = true →
        l.transmitter ≠ none ∨ l.mode = .disabled ∨ l.receiver.isAssembling = true ∨
          now < q.ended + 2 * l.rate.charTicks) →
      exec (.replyStart n now) s = .next (s.withLine n d))) ∧
  (∀ (s : State) (n : LineNo) (now : Moment),
    let l := s.lines[n]
    (∀ pre post r x, l.transmitter = some x → x.endsAt ≤ now → l.slots = pre ++ r :: post →
      r.isSending = true → (∀ q ∈ pre, q.isSending = false) →
      exec (.replySent n now) s = .next (s.withLine n
        { l.counted fun k => { k with repliesSent := satInc16 k.repliesSent } with
          slots := pre ++ post
          transmitter := none
          receiver := if l.mode = .disabled then .off else .listening })) ∧
    (l.transmitter = none ∨ (∃ x, l.transmitter = some x ∧ now < x.endsAt) →
      exec (.replySent n now) s = .next s)) ∧
  (∀ (l : Line) (now : Moment),
    (l.lde = true ↔ l.transmitter ≠ none) ∧
    (l.transmitter = none → l.ltx now = true) ∧
    ∀ x begun, l.transmitter = some x → x.endsAt = begun + 13 * x.rate.charTicks →
      (now < begun ∨ x.endsAt ≤ now → l.ltx now = true) ∧
      ∀ k j : Nat, k < 13 → j < 10 → begun + (10 * k + j) * x.rate.bitTicks ≤ now →
        now < begun + (10 * k + j + 1) * x.rate.bitTicks →
        l.ltx now = if j = 0 then false else if j = 9 then true
          else (x.frame.getD k 0).getLsbD (j - 1))

/-- LINE_CONFIG sets rate and window of a DISABLED line within R88's ranges; LINE_STATUS answers the
line as it stands; LINE_CLEAR answers the ten counters and sets them to 0; a line above 3 is
BAD_PARAM. -/
def Obligations.LineRequestsAnswer : Prop :=
  (∀ (s : State) r, s.Serving .lineConfig r →
    (∀ (n : LineNo) rate, (byteAt r.params 0).toNat = n.val → byteAt r.params 1 = Rate.code rate →
      5 ≤ (byteAt r.params 2).toNat → (byteAt r.params 2).toNat ≤ 250 →
      (rate = .r2400 → 9 ≤ (byteAt r.params 2).toNat) →
      (s.lines[n].mode = .disabled → s.Answers .lineConfig r
        (s.withLine n { s.lines[n] with rate := rate, window := byteAt r.params 2 }) (.ok [])) ∧
      (s.lines[n].mode ≠ .disabled → s.Refuses .lineConfig r .lineActive)) ∧
    (3 < (byteAt r.params 0).toNat ∨ 3 < (byteAt r.params 1).toNat ∨
      (byteAt r.params 2).toNat < 5 ∨ 250 < (byteAt r.params 2).toNat ∨
      (byteAt r.params 1 = 0x00 ∧ (byteAt r.params 2).toNat < 9) →
      s.Refuses .lineConfig r .badParam)) ∧
  (∀ (s : State) r, s.Serving .lineStatus r →
    (∀ n : LineNo, (byteAt r.params 0).toNat = n.val →
      s.Answers .lineStatus r s (.ok (
        [byteAt r.params 0, s.lines[n].mode.code, s.lines[n].rate.code, s.lines[n].window,
          s.lines[n].receiver.code, BitVec.ofNat 8 s.lines[n].receiver.held,
          yesNo s.lines[n].transmitter.isSome,
          s.lines[n].slotByte 0, s.lines[n].slotByte 1] ++ s.lines[n].counters.bytes))) ∧
    (3 < (byteAt r.params 0).toNat → s.Refuses .lineStatus r .badParam)) ∧
  (∀ (s : State) r, s.Serving .lineClear r →
    (∀ n : LineNo, (byteAt r.params 0).toNat = n.val →
      s.Answers .lineClear r
        (s.withLine n { s.lines[n] with counters := ⟨0, 0, 0, 0, 0, 0, 0, 0, 0, 0⟩ })
        (.ok s.lines[n].counters.bytes)) ∧
    (3 < (byteAt r.params 0).toNat → s.Refuses .lineClear r .badParam))

/-- LINE_MODE answers the mode before; naming the mode in force changes nothing; entering DISABLED
turns the receiver off, empties WAITING and READY slots, marks IN_TABLE slots for discard and leaves
SENDING ones; leaving DISABLED starts the receiver in LISTENING, or in MUTED while a reply is sent; a
change between the other modes changes the mode alone. -/
def Obligations.LineModeRequestChangesTheMode : Prop :=
  ∀ (s : State) r, s.Serving .lineMode r →
    (∀ (n : LineNo) m, (byteAt r.params 0).toNat = n.val → byteAt r.params 1 = LineMode.code m →
      let l := s.lines[n]
      let answer := Answer.ok [l.mode.code]
      (m = l.mode → s.Answers .lineMode r s answer) ∧
      (m = .disabled → l.mode ≠ .disabled → s.Answers .lineMode r
        (s.withLine n
          { l with
            mode := .disabled
            receiver := .off
            awaitHigh := false
            slots := (l.slots.filter fun q => q.isSending || q.isInTable).map fun q =>
              if q.isInTable then { q with discard := true } else q }) answer) ∧
      (m ≠ .disabled → l.mode = .disabled → s.Answers .lineMode r
        (s.withLine n
          { l with
            mode := m, receiver := if l.transmitter.isSome then .muted else .listening }) answer) ∧
      (m ≠ .disabled → l.mode ≠ .disabled → m ≠ l.mode → s.Answers .lineMode r
        (s.withLine n { l with mode := m }) answer)) ∧
    (3 < (byteAt r.params 0).toNat ∨ 3 < (byteAt r.params 1).toNat →
      s.Refuses .lineMode r .badParam)

/-! ### Report grants -/

/-- A report whose identity is not found raises the line's unknown count, updates the discovery list
for a valid identity (seen again, appended, or overflow), and changes nothing else; its slot stands
IN_TABLE with the result of the policy in force, until the result returns (log 4). -/
def Obligations.UnknownReportIsAnsweredByPolicy : Prop :=
  ∀ (s : State) (n : LineNo) (pre : List RxSlot) (r : RxSlot) (post : List RxSlot),
    s.GrantsReport n pre r post → s.index.lookup r.identity = none →
    ∃ d, exec (.reportGrant (.work n)) s = .next
      { s.withLine n
          { s.lines[n].counted fun k => { k with unknownReports := satInc16 k.unknownReports } with
            slots := pre ++
              { r with
                state := .inTable (match s.discovery.policy with
                  | .hold => some { command := .hold, reason := .unknown, balanceClass := 0 }
                  | .on => some { command := .on, reason := .unknown, balanceClass := 0 }
                  | .quiet => none) } :: post } with
        rotation := (Claimant.line n).after
        discovery := d } ∧
      d.policy = s.discovery.policy ∧
      (validIdentity r.identity = false → d = s.discovery) ∧
      (∀ before e after, validIdentity r.identity = true →
        s.discovery.entries = before ++ e :: after → e.identity = r.identity →
        (∀ f ∈ before ++ after, f.identity ≠ r.identity) →
        d = { s.discovery with
          entries := before ++ { e with
            sightings := satInc8 e.sightings
            lastSequence := r.sequence } :: after }) ∧
      (validIdentity r.identity = true → (∀ e ∈ s.discovery.entries, e.identity ≠ r.identity) →
        s.discovery.entries.length < 8 →
        d = { s.discovery with
          entries := s.discovery.entries ++
            [{ identity := r.identity, line := n, firstSeen := s.supv.calendar, sightings := 1,
               lastSequence := r.sequence }] }) ∧
      (validIdentity r.identity = true → (∀ e ∈ s.discovery.entries, e.identity ≠ r.identity) →
        8 ≤ s.discovery.entries.length →
        d = { s.discovery with overflow := satInc16 s.discovery.overflow })

/-- A report that repeats the last sequence of its account refreshes last line, last report time and
the place in the silence list, clears SILENT, and raises the line's duplicate count; balance,
consumption and counts stay. Its slot stands IN_TABLE with the reply content of the record, until the
result returns (log 4). -/
def Obligations.DuplicateReportIsNotCharged : Prop :=
  ∀ (s : State) (n : LineNo) (pre : List RxSlot) (r : RxSlot) (post : List RxSlot) (i : Slot),
    s.GrantsReport n pre r post → s.index.lookup r.identity = some i →
    (s.account i).image.lastSequence = some r.sequence →
    let a := (s.account i).image
    let a' : AccountImage := { a with lastLine := some n, lastTime := some s.supv.calendar }
    ∃ t, exec (.reportGrant (.work n)) s = .next t ∧
      t.account i = { s.account i with
        image := a'
        silent := false
        dirty := (s.account i).dirty || decide (a' ≠ a) } ∧
      s.SameElsewhere t i ∧
      t = { s.withLine n
          { s.lines[n].counted fun k => { k with duplicates := satInc16 k.duplicates } with
            slots := pre ++
              { r with state := .inTable (some (s.tariff.replyContent a)) } :: post } with
        table := t.table
        rotation := (Claimant.line n).after
        supv := s.supv.heardFrom i a.state
        snapshot := (s.copyBeforeWrite i).snapshot }

/-- A report of a known account is classified by its sequence and the last one alone. A first, successor
or gap report is taken: the debit is usage times price in full, and the balance falls by it exactly and
stops at the minimum; the image, the kinds and the lists follow R101 in its order; other accounts stay.
Its slot stands IN_TABLE with the reply content of the record as the grant leaves it, until the result
returns (log 4). -/
def Obligations.ReportTakenIsChargedAndAnswered : Prop :=
  (∀ (s : State) (n : LineNo) (pre : List RxSlot) (r : RxSlot) (post : List RxSlot) (i : Slot),
    s.GrantsReport n pre r post → s.index.lookup r.identity = some i →
    (s.account i).image.lastSequence ≠ some r.sequence →
    let a := (s.account i).image
    let gap : Bool := match a.lastSequence with
      | none => false
      | some last => r.sequence != last + 1
    let a' := s.imageTaken a n r.sequence r.usage gap
    let ks := s.kindsTaken a n r.sequence r.usage gap
    ∃ t, exec (.reportGrant (.work n)) s = .next t ∧
      t.account i =
        { image := a'
          silent := false
          pending := (s.account i).pending ||| ks
          dirty := true } ∧
      s.SameElsewhere t i ∧
      s.notices.Gained t.notices a.group (ks &&& ~~~(s.account i).pending) ∧
      t = { s.withLine n
          { s.lines[n] with
            slots := pre ++
              { r with state := .inTable (some (s.tariff.replyContent a')) } :: post } with
        table := t.table
        rotation := (Claimant.line n).after
        notices := t.notices
        supv := (s.supv.graceMoved i a.state a'.state).heardFrom i a'.state
        snapshot := (s.copyBeforeWrite i).snapshot }) ∧
  (∀ (sequence : Byte),
    sequenceCase none sequence = .first ∧
    ∀ last : Byte,
      (sequence.toNat = (last.toNat + 1) % 256 → sequenceCase (some last) sequence = .successor) ∧
      (sequence = last → sequenceCase (some last) sequence = .duplicate) ∧
      (sequence.toNat ≠ (last.toNat + 1) % 256 → sequence ≠ last →
        sequenceCase (some last) sequence = .gap)) ∧
  (∀ (balance : Credit) (usage price : Half),
    (debited balance (debitOf usage price)).toInt =
      max (-2147483648) (balance.toInt - usage.toNat * price.toNat))

/-- Command and reason of a reply to a known account, and its balance class from the balance, the
effective low level and the hold level of the live class: in each, the first row that applies. -/
def Obligations.ReplyContentFollowsTheAccount : Prop :=
  ∀ (t : TariffUnit) (a : AccountImage),
    let hold := t.live[a.tariffClass].hold.toInt
    let low := (match a.lowOverride with
      | some level => level
      | none => t.live[a.tariffClass].low).toInt
    let c := t.replyContent a
    (a.state = .closing → c.command = .hold ∧ c.reason = .closed) ∧
    (a.state ≠ .closing → a.suspended = true → c.command = .hold ∧ c.reason = .admin) ∧
    (a.state = .held → a.suspended = false → c.command = .hold ∧ c.reason = .balance) ∧
    (a.state = .grace → a.suspended = false → c.command = .on ∧ c.reason = .grace) ∧
    (a.state = .active → a.suspended = false → c.command = .on ∧ c.reason = .normal) ∧
    (a.balance.toInt ≤ hold → c.balanceClass = 2) ∧
    (hold < a.balance.toInt → low ≤ a.balance.toInt → c.balanceClass = 0) ∧
    (hold < a.balance.toInt → a.balance.toInt < low → c.balanceClass = 1) ∧
    (low ≤ hold → c.balanceClass ≠ 1)

/-! ### The snapshot unit -/

/-- A SWEEP grant captures each of the sixteen slots from the cursor that is still uncaptured, as its
record stands, adds the present ones to the totals, raises the cursor by 10h and is READY at 400h; no
other shadow and no other state changes. -/
def Obligations.SweepStepCapturesSixteenSlots : Prop :=
  ∀ s : State, s.granted = some .sweep → s.snapshot.cursor + 16 ≤ 1024 →
    let inStep := fun i : Slot => decide (s.snapshot.cursor ≤ i.val) &&
      decide (i.val < s.snapshot.cursor + 16) && !(s.snapshot.shadow i).captured
    let taken := (allSlots.filter fun i => inStep i && !s.isFree i).map fun i =>
      (s.account i).image
    ∃ sn, exec .sweepStep s = .next { s with rotation := .capt, snapshot := sn } ∧
      (∀ i, inStep i = true →
        (s.isFree i = true → sn.shadow i = { captured := true, fields := none }) ∧
        (s.isFree i = false → sn.shadow i =
          { captured := true
            fields := some
              { identity := (s.account i).image.identity
                tariffClass := (s.account i).image.tariffClass
                state := (s.account i).image.state
                suspended := (s.account i).image.suspended
                balance := (s.account i).image.balance
                consumption := (s.account i).image.consumption
                reportCount := (s.account i).image.reportCount } })) ∧
      (∀ i, inStep i = false → sn.shadow i = s.snapshot.shadow i) ∧
      sn.present = s.snapshot.present + taken.length ∧
      sn.consumptionSum = (taken.map fun a => a.consumption.setWidth 48).foldl (· + ·)
        s.snapshot.consumptionSum ∧
      sn.balanceSum = (taken.map fun a => a.balance.signExtend 48).foldl (· + ·)
        s.snapshot.balanceSum ∧
      sn.cursor = s.snapshot.cursor + 16 ∧
      sn.state = (if s.snapshot.cursor + 16 = 1024 then .ready else .sweeping) ∧
      sn.id = s.snapshot.id ∧ sn.cutStamp = s.snapshot.cutStamp

/-- SNAPSHOT_TAKE cuts in IDLE alone; SNAPSHOT_TOTALS answers in READY alone; SNAPSHOT_RELEASE answers
the state before and leaves IDLE. -/
def Obligations.SnapshotRequestsAnswer : Prop :=
  (∀ (s : State) r, s.Serving .snapshotTake r →
    (s.snapshot.state = .idle →
      ∃ sn, s.Answers .snapshotTake r { s with snapshot := sn }
          { result := .started, bytes := bytes16 (s.snapshot.id + 1) } ∧
        sn.state = .sweeping ∧ sn.id = s.snapshot.id + 1 ∧ sn.cutStamp = s.supv.calendar ∧
        sn.cursor = 0 ∧ sn.present = 0 ∧ sn.consumptionSum = 0 ∧ sn.balanceSum = 0 ∧
        ∀ i, sn.shadow i = { captured := false, fields := none }) ∧
    (s.snapshot.state ≠ .idle → s.Refuses .snapshotTake r .snapshotActive)) ∧
  (∀ (s : State) r, s.Serving .snapshotTotals r →
    (s.snapshot.state = .ready → s.Answers .snapshotTotals r s
      (.ok (bytes16 s.snapshot.id ++ bytes32 s.snapshot.cutStamp ++ num16 s.snapshot.present ++
        bytes48 s.snapshot.consumptionSum ++ bytes48 s.snapshot.balanceSum))) ∧
    (s.snapshot.state = .sweeping → s.Refuses .snapshotTotals r .busy) ∧
    (s.snapshot.state = .idle → s.Refuses .snapshotTotals r .noSnapshot)) ∧
  (∀ (s : State) r, s.Serving .snapshotRelease r →
    s.Answers .snapshotRelease r { s with snapshot := { s.snapshot with state := .idle } }
      (.ok [match s.snapshot.state with | .idle => 0x00 | .sweeping => 0x01 | .ready => 0x02]))

/-- SNAPSHOT_READ: a slot above 1023 is BAD_PARAM, IDLE is NO_SNAPSHOT; a slot that is uncaptured in
SWEEPING is captured first, and the answer is the shadow, or ABSENT. -/
def Obligations.SnapshotReadCapturesOnDemand : Prop :=
  ∀ (s : State) r, s.Serving .snapshotRead r →
    (1023 < (halfAt r.params 0).toNat → s.Refuses .snapshotRead r .badParam) ∧
    ∀ i : Slot, (halfAt r.params 0).toNat = i.val →
      (s.snapshot.state = .idle → s.Refuses .snapshotRead r .noSnapshot) ∧
      (s.snapshot.state ≠ .idle → ∃ sn,
        (s.snapshot.state = .sweeping → (s.snapshot.shadow i).captured = false →
          s.snapshot.Captured sn i (s.account i)) ∧
        (s.snapshot.state = .ready ∨ (s.snapshot.shadow i).captured = true →
          sn = s.snapshot) ∧
        ((sn.shadow i).fields = none →
          s.Answers .snapshotRead r { s with snapshot := sn } (.bare .absent)) ∧
        (∀ f, (sn.shadow i).fields = some f →
          s.Answers .snapshotRead r { s with snapshot := sn }
            (.ok (bytes16 s.snapshot.id ++ [byteAt r.params 0, byteAt r.params 1] ++
              bytes48 f.identity ++ num8 f.tariffClass.val ++ [f.state.code, yesNo f.suspended] ++
              bytes32 f.balance ++ bytes32 f.consumption ++ bytes16 f.reportCount))))

/-! ### The retention store -/

/-- A CAPT grant puts the settings page, or the account page that its mode chooses, into the latch and
begins its erase; an account page's dirty flags are cleared; where no page is left, the header is
prepared. Pages are the model's (log 8). -/
def Obligations.CaptGrantsFillTheLatch : Prop :=
  (∀ s : State, s.granted = some .capt → s.store.claim = some .settings →
    exec .settingsPageCapture s = .next { s with
      rotation := .line 0
      store := { s.store with
        latch := .written
          (.settings
            { live := s.tariff.live
              band := s.tariff.band
              gracePeriod := s.supv.gracePeriod
              silenceLimit := s.supv.silenceLimit
              policy := s.discovery.policy
              groups := Vector.ofFn fun g : GroupNo =>
                (s.notices.groups[g].mask, s.notices.groups[g].priority)
              lines := Vector.ofFn fun n : LineNo => (s.lines[n].rate, s.lines[n].window) })
          1 s.store.generation true
        inProgress := some { page := 1, phase := .erasing }
        claim := none } }) ∧
  (∀ s : State, s.granted = some .capt → s.store.claim = some .account →
    let due := fun k : Fin 64 =>
      (∃ j : Fin 16, (s.account (pageSlot k j)).dirty = true) ∨ k ∈ s.store.rewrite
    (∀ k : Fin 64,
      (s.store.mode = .full ∧ s.store.cursor = k.val + 2 ∨
        s.store.mode = .dirty ∧ s.store.cursor ≤ k.val + 2 ∧ due k ∧
          ∀ k' : Fin 64, s.store.cursor ≤ k'.val + 2 → due k' → k ≤ k') →
      ∃ t, exec .accountPageCapture s = .next { s with
          rotation := .line 0
          table := t
          store := { s.store with
            latch := .written
              (.account (Vector.ofFn fun j => (s.account (pageSlot k j)).image.stored))
              (k.val + 2) s.store.generation true
            inProgress := some { page := ⟨k.val + 2, by omega⟩, phase := .erasing }
            cursor := k.val + 3
            claim := none } } ∧
        (∀ j : Fin 16, Sparse.get Record.free t (pageSlot k j) =
          { s.account (pageSlot k j) with dirty := false }) ∧
        (∀ i, (∀ j : Fin 16, i ≠ pageSlot k j) → Sparse.get Record.free t i = s.account i)) ∧
    ((s.store.mode = .full ∧ s.store.cursor = 66 ∨
        s.store.mode = .dirty ∧ ∀ k : Fin 64, s.store.cursor ≤ k.val + 2 → ¬due k) →
      exec .accountPageCapture s = .next { s with
        rotation := .line 0
        store := { s.store with
          latch := .written
            (.header
              { pagesWritten := s.store.pagesWritten
                pagesFailing := s.store.verifyFailures
                completion := s.supv.calendar }) 0 s.store.generation true
          inProgress := some { page := 0, phase := .erasing }
          claim := none } }))

/-- A page in progress is erased, then programmed from the latch, which the array then holds (pages: log 8;
damage shows at the verify: log 23), and counted (but for the header); its
verify takes it out of the rewrite set or counts a failure and puts it in. Whether a page that failed
still reads with a good CRC later is open but for the header (log 10). Then an abort ends, the
checkpoint completes after its header, the header is prepared, or CAPT claims again. -/
def Obligations.PageIsErasedProgrammedVerified : Prop :=
  ∀ (s : State) (p : Fin 66), (s.store.state = .checkpoint ∨ s.store.state = .aborting) →
    (s.store.inProgress = some { page := p, phase := .erasing } →
      exec .pageEraseDone s = .next { s with store := { s.store with
        array := s.store.array.set p .erased
        inProgress := some { page := p, phase := .programming } } }) ∧
    (s.store.inProgress = some { page := p, phase := .programming } →
      exec .pageProgramDone s = .next { s with store := { s.store with
        array := s.store.array.set p s.store.latch
        pagesWritten := s.store.pagesWritten + (if p = 0 then 0 else 1)
        inProgress := some { page := p, phase := .verifying } } }) ∧
    (s.store.inProgress = some { page := p, phase := .verifying } →
      ∀ readBack : ReadBack, ∃ st : Store,
      let t := { s with freeCount := s.freeCount + (if readBack = ReadBack.matched then 0 else 1) }
      let gone := fun st' : Store =>
        exec (.pageVerifyDone readBack) s = .next { t with store := st' }
      st = { s.store with
        verifyFailures := s.store.verifyFailures + (if readBack = ReadBack.matched then 0 else 1)
        rewrite := st.rewrite
        array := st.array
        inProgress := none } ∧
      (∀ k : Fin 64, k ∈ st.rewrite ↔
        if p.val = k.val + 2 then readBack = .mismatched else k ∈ s.store.rewrite) ∧
      (∀ q : Fin 66, q ≠ p → st.array[q] = s.store.array[q]) ∧
      (readBack = .matched → st.array[p] = s.store.array[p]) ∧
      (readBack = .mismatched → ∃ good, st.array[p] = s.store.array[p].withCrc good ∧
        (p = 0 → good = false)) ∧
      (s.store.state = .aborting → gone { st with state := .idle, lastResult := .aborted }) ∧
      (s.store.state = .checkpoint → p = 0 →
        ∀ figures n g c, s.store.latch = .written (.header figures) n g c →
        gone { st with
          headerGeneration := s.store.generation
          headerFigures := figures
          state := .idle
          lastResult := if st.verifyFailures = 0 then .complete else .completeWithFailures }) ∧
      (s.store.state = .checkpoint → p ≠ 0 → s.store.cursor = 66 →
        gone { st with
          latch := .written
            (.header
              { pagesWritten := s.store.pagesWritten
                pagesFailing := st.verifyFailures
                completion := s.supv.calendar }) 0 s.store.generation true
          inProgress := some { page := 0, phase := .erasing }
          claim := none }) ∧
      (s.store.state = .checkpoint → p ≠ 0 → s.store.cursor < 66 →
        gone { st with claim := some .account }))

/-- CHECKPOINT starts in IDLE with the next generation and is BUSY while the store works; STORE_STATUS
answers the fifteen fields and changes nothing. CHECKPOINT_ABORT answers the store state before it: a
checkpoint with a settings or account page in progress is aborted after that page, one with no page in
progress at once, one with its header in progress goes on; in IDLE and ABORTING nothing changes; a wipe
answers BUSY. -/
def Obligations.CheckpointRequestsAnswer : Prop :=
  (∀ (s : State) r, s.Serving .checkpoint r →
    (∀ mode, (byteAt r.params 0 = 0x00 ∧ mode = CheckpointMode.full ∨
        byteAt r.params 0 = 0x01 ∧ mode = .dirty) →
      (s.store.state = .idle → s.Answers .checkpoint r
        { s with store := { s.store with
          generation := s.store.headerGeneration + 1
          mode := mode
          verifyFailures := 0
          pagesWritten := 0
          cursor := 2
          state := .checkpoint
          claim := some .settings } }
        { result := .started, bytes := bytes16 (s.store.headerGeneration + 1) }) ∧
      (s.store.state = .checkpoint ∨ s.store.state = .aborting ∨ s.store.state = .wiping →
        s.Refuses .checkpoint r .busy)) ∧
    (0x01 < (byteAt r.params 0).toNat → s.Refuses .checkpoint r .badParam)) ∧
  (∀ (s : State) r, s.Serving .storeStatus r →
    s.Answers .storeStatus r s (.ok (
      [s.store.state.code,
        match s.store.inProgress with
        | some w => BitVec.ofNat 8 w.page.val
        | none => 0xFF] ++
      bytes16 s.store.headerGeneration ++ [s.store.lastResult.code] ++
      num8 s.store.verifyFailures ++ num8 s.store.rewrite.length ++
      [startModeCode s.store.startMode] ++ num8 s.store.restored.loaded ++
      num8 s.store.restored.lost ++ num8 s.store.restored.differing ++
      num16 s.store.restored.duplicates ++ num16 s.store.restored.unplaced ++
      num8 s.store.headerFigures.pagesWritten ++ num8 s.store.headerFigures.pagesFailing ++
      bytes32 s.store.headerFigures.completion))) ∧
  (∀ (s : State) r, s.Serving .checkpointAbort r →
    (s.store.state = .checkpoint →
      (∀ w, s.store.inProgress = some w → w.page ≠ 0 →
        s.Answers .checkpointAbort r { s with store := { s.store with state := .aborting } }
          (.ok [0x01])) ∧
      (s.store.inProgress = none →
        s.Answers .checkpointAbort r
          { s with store := { s.store with
            state := .idle, claim := none, lastResult := .aborted } } (.ok [0x01])) ∧
      (∀ w, s.store.inProgress = some w → w.page = 0 →
        s.Answers .checkpointAbort r s (.ok [0x01]))) ∧
    (s.store.state = .idle → s.Answers .checkpointAbort r s (.ok [0x00])) ∧
    (s.store.state = .aborting → s.Answers .checkpointAbort r s (.ok [0x02])) ∧
    (s.store.state = .wiping →
      s.Answers .checkpointAbort r s { result := .busy, bytes := [0x03] }))

/-- STORE_WIPE starts in IDLE with page 0 and is BUSY otherwise; each erase takes the pages in
ascending order, and the wipe ends after page 65. -/
def Obligations.WipeErasesEveryPage : Prop :=
  (∀ (s : State) r, s.Serving .storeWipe r →
    (s.store.state = .idle → s.Answers .storeWipe r
      { s with store := { s.store with
        state := .wiping
        verifyFailures := 0
        pagesWritten := 0
        headerGeneration := 0
        headerFigures := ⟨0, 0, 0⟩
        rewrite := List.finRange 64
        inProgress := some { page := 0, phase := .erasing } } }
      { result := .started, bytes := [] }) ∧
    (s.store.state ≠ .idle → s.Refuses .storeWipe r .busy)) ∧
  (∀ (s : State) (p : Fin 66), s.store.state = .wiping →
    s.store.inProgress = some { page := p, phase := .erasing } →
    (∀ q : Fin 66, q.val = p.val + 1 →
      exec .wipePageEraseDone s = .next { s with store := { s.store with
        array := s.store.array.set p .erased
        inProgress := some { page := q, phase := .erasing } } }) ∧
    (p.val = 65 →
      exec .wipePageEraseDone s = .next { s with store := { s.store with
        array := s.store.array.set p .erased
        inProgress := none
        state := .idle
        lastResult := .wiped } }))

/-! ### The host port -/

/-- REQUEST_WRITE, whole or a piece of one: the bytes received in full join the request queue while it has
room; the first that finds it full faults the port with OVERFLOW (in START the port state stays), and
the rest are discarded; in FAULT, and in START after an OVERFLOW, all are discarded. MISO gives 00h
throughout, and a byte that CS_N cuts off is discarded (pieces and the record of MISO: log 14). RDY is
asserted exactly while the queue has 64 free bytes and RESET_N is high. -/
def Obligations.RequestWriteFillsTheQueue : Prop :=
  (∀ (s : State) (piece : SpiPiece) (x : Spi), s.spiOf 0x01 piece = some x → x.ended = false →
    let p := s.port
    let bytes := piece.received
    let left := fun q : Port =>
      exec (.requestWrite piece) s = .next
        { s with port := s.carried piece q x (List.replicate bytes.length 0x00) 0x00 }
    ((p.state = .ready ∨ p.state = .start ∧ p.cause = .none) →
      (p.requests.length + bytes.length ≤ 256 →
        left { p with requests := p.requests ++ bytes }) ∧
      (256 < p.requests.length + bytes.length → p.requests.length ≤ 256 →
        left { p with
          requests := p.requests ++ bytes.take (256 - p.requests.length)
          cause := .overflow
          faultResponse := true
          state := if p.state = .ready then .fault else .start })) ∧
    ((p.state = .fault ∨ p.state = .start ∧ p.cause ≠ .none) → left p)) ∧
  (∀ s : State, s.rdy = true ↔ s.port.requests.length + 64 ≤ 256 ∧ s.resetHeld = false)

/-- The first byte names the transaction. RESPONSE_READ sends the front of the response queue, removing a
byte when its first bit has been sent, and 00h with the underrun flag where it is empty; STATUS_READ sends
the four status bytes captured at its first byte and clears the underrun flag at the end of the fourth;
PORT_FLUSH empties the request queue and ends a fault at its first byte; the rest of a PORT_FLUSH, of a
transaction of another first byte, and of one that a PART_RESET ended changes nothing in the port but what
MISO carries. A piece that no transaction takes, or that comes while a pin reset is held, has no effect.
Pieces and the record of MISO are the model's (log 1, log 13, log 14); `opened` by a flush: log 16. -/
def Obligations.TransactionsActOnThePort : Prop :=
  (SpiKind.ofFirst 0x01 = .requestWrite ∧ SpiKind.ofFirst 0x02 = .responseRead ∧
    SpiKind.ofFirst 0x03 = .statusRead ∧ SpiKind.ofFirst 0x04 = .portFlush ∧
    ∀ b : Byte, b ∉ [(0x01 : Byte), 0x02, 0x03, 0x04] → SpiKind.ofFirst b = .unknown) ∧
  (∀ (s : State) (piece : SpiPiece) (x : Spi), s.spiOf 0x02 piece = some x → x.ended = false →
    let p := s.port
    let n := piece.received.length
    let begun := n + if SpiPiece.cuts piece then 1 else 0
    let q : Port :=
      { p with
        responses := p.responses.drop begun
        underrun := p.underrun || decide (p.responses.length < begun) }
    let sent := (p.responses ++ List.replicate n 0x00).take n
    exec (.responseRead piece) s = .next
      { s with port := s.carried piece q x sent ((p.responses.drop n).headD 0x00) }) ∧
  (∀ (s : State) (piece : SpiPiece) (x : Spi), s.spiOf 0x03 piece = some x → x.ended = false →
    let n := piece.received.length
    let q : Port :=
      { s.port with
        underrun := s.port.underrun && !decide (1 ≤ x.status.length ∧ x.status.length ≤ n) }
    let y : Spi := { x with status := x.status.drop n }
    let sent := (x.status ++ List.replicate n 0x00).take n
    exec (.statusRead piece) s = .next
      { s with port := s.carried piece q y sent (y.status.headD 0x00) }) ∧
  (∀ s : State, ∃ requests responses flags : Byte,
    s.statusBytes = [s.port.state.code, requests, responses, flags] ∧
    requests.toNat = min 255 s.port.requests.length ∧
    responses.toNat = min 255 (s.port.responses.length / 2) ∧
    (flags.getLsbD 0 = true ↔
      s.notices.enable = true ∧ ∃ g : GroupNo, s.notices.groups[g].state = .raised) ∧
    flags.extractLsb' 1 2 =
      (match s.snapshot.state with | .idle => 0 | .sweeping => 1 | .ready => 2 : BitVec 2) ∧
    (flags.getLsbD 3 = true ↔ s.store.state = .checkpoint ∨ s.store.state = .aborting ∨
      s.store.state = .wiping) ∧
    flags.getLsbD 4 = s.port.underrun ∧
    flags.extractLsb' 5 2 =
      (match s.port.cause with
      | .none => 0 | .unknownCode => 1 | .badLength => 2 | .overflow => 3 : BitVec 2) ∧
    flags.getLsbD 7 = false) ∧
  (∀ (s : State) (piece : SpiPiece) (x : Spi), s.spiOf 0x04 piece = some x →
    let n := piece.received.length
    let flushed : Port :=
      { s.port with
        requests := []
        cause := .none
        faultResponse := false
        state := if s.port.state = .fault then .ready else s.port.state
        opened := s.port.opened || decide (s.port.state = .fault) }
    let q := if piece.opens then flushed else s.port
    exec (.portFlush piece) s = .next
      { s with port := s.carried piece q x (List.replicate n 0x00) 0x00 }) ∧
  (∀ (s : State) (first : Byte) (piece : SpiPiece) (x : Spi), s.spiOf first piece = some x →
    let sent := List.replicate piece.received.length 0x00
    let ignored := .next { s with port := s.carried piece s.port x sent 0x00 }
    (first ∉ [(0x01 : Byte), 0x02, 0x03, 0x04] →
      exec (.unknownTransaction first piece) s = ignored) ∧
    (x.ended = true → first = 0x01 → exec (.requestWrite piece) s = ignored) ∧
    (x.ended = true → first = 0x02 → exec (.responseRead piece) s = ignored) ∧
    (x.ended = true → first = 0x03 → exec (.statusRead piece) s = ignored)) ∧
  (∀ (s : State) (piece : SpiPiece),
    (s.spiOf 0x01 piece = none → exec (.requestWrite piece) s = .next s) ∧
    (s.spiOf 0x02 piece = none → exec (.responseRead piece) s = .next s) ∧
    (s.spiOf 0x03 piece = none → exec (.statusRead piece) s = .next s) ∧
    (s.spiOf 0x04 piece = none → exec (.portFlush piece) s = .next s) ∧
    ∀ first, s.spiOf first piece = none ∨ SpiKind.ofFirst first ≠ .unknown →
      exec (.unknownTransaction first piece) s = .next s)

/-- In READY with no request in execution, at least three bytes waiting and 64 free bytes for the
response, the executor faults an unknown code and then a length outside the code's range, with a FAULT
response; otherwise it takes the request once all its bytes are there, and waits until then. An
OVERFLOW gets its one FAULT response when start-up is over, no request is in execution and five bytes
are free; in every other state the two steps have no effect (log 1). -/
def Obligations.ExecutorTakesOrFaults : Prop :=
  (∀ s : State,
    let p := s.port
    let tag := byteAt p.requests 1
    let len := (byteAt p.requests 2).toNat
    let faulted := fun (c : FaultCause) (code : Byte) => { s with port := { p with
      state := .fault
      cause := c
      responses := p.responses ++ [tag, byteAt p.requests 0, 0x20, 0x01, code] } }
    (p.state = .ready → p.executing = none → 3 ≤ p.requests.length →
      p.responses.length + 64 ≤ 512 →
      ((∀ row ∈ requestTable, row.2.1 ≠ byteAt p.requests 0) →
        exec .executorTake s = .next (faulted .unknownCode 0x01)) ∧
      (∀ q least most, (q, byteAt p.requests 0, least, most) ∈ requestTable →
        (len < least ∨ most < len →
          exec .executorTake s = .next (faulted .badLength 0x02)) ∧
        (least ≤ len → len ≤ most → p.requests.length < 3 + len →
          exec .executorTake s = .next s) ∧
        (least ≤ len → len ≤ most → 3 + len ≤ p.requests.length →
          exec .executorTake s = .next { s with port := { p with
            requests := p.requests.drop (3 + len)
            executing := some
              { req := q, tag := tag, params := (p.requests.drop 3).take len } } }))) ∧
    (p.state ≠ .ready ∨ p.executing ≠ none ∨ p.requests.length < 3 ∨
      512 < p.responses.length + 64 → exec .executorTake s = .next s)) ∧
  (∀ s : State,
    let p := s.port
    (p.faultResponse = true → p.state ≠ .start → p.executing = none →
      p.responses.length + 5 ≤ 512 →
      exec .overflowFaultResponse s = .next { s with port := { p with
        faultResponse := false
        responses := p.responses ++ [0x00, 0x00, 0x20, 0x01, 0x03] } }) ∧
    (p.faultResponse = false ∨ p.state = .start ∨ p.executing ≠ none ∨
      512 < p.responses.length + 5 → exec .overflowFaultResponse s = .next s))

/-- PART_IDENT answers part code, revision, slot count and page count, and changes nothing. -/
def Obligations.PartIdentAnswers : Prop :=
  ∀ (s : State) r, s.Serving .partIdent r →
    s.Answers .partIdent r s (.ok [0x10, 0x24, 0x01, 0x04, 0x00, 0x42])

/-- A response is its header of tag, code, result code and result length, and its result bytes; the
result codes, the codes of every enumerated field, the kind numbers and the slot bytes of LINE_STATUS are
those of the spec's tables (that of the store state START, which is never sent: log 18); the line counters
go in the order of R87; fields go most significant byte first; the CRC is the bit by bit computation of
R27, and the bucket of an identity the low eight bits of the CRC of its six bytes. -/
def Obligations.FormatsFollowTheTables : Prop :=
  (∀ (tag code : Byte) (a : Answer), a.bytes.length ≤ 60 → ∃ result length : Byte,
    responseBytes tag code a = [tag, code, result, length] ++ a.bytes ∧
    (a.result, result) ∈ resultTable ∧ length.toNat = a.bytes.length) ∧
  (∀ bytes : List Byte, crc16 bytes = (bytes.flatMap msbFirst).foldl crcShift 0xFFFF) ∧
  crc16 [0x31, 0x32, 0x33, 0x34, 0x35, 0x36, 0x37, 0x38, 0x39] = 0x29B1 ∧
  (∀ id : Identity, (bucketOf id).val = (crc16 (bytesOf 6 id.toNat)).toNat % 256) ∧
  ((∀ v, bytes16 v = bytesOf 2 v.toNat) ∧ (∀ v, bytes32 v = bytesOf 4 v.toNat) ∧
    (∀ v, bytes48 v = bytesOf 6 v.toNat) ∧ (∀ n, n < 256 → num8 n = bytesOf 1 n) ∧
    (∀ n, n < 65536 → num16 n = bytesOf 2 n)) ∧
  (∀ (ps : List Byte) (i : Nat),
    (halfAt ps i).toNat = (byteAt ps i).toNat * 256 + (byteAt ps (i + 1)).toNat ∧
    (wordAt ps i).toNat = (halfAt ps i).toNat * 65536 + (halfAt ps (i + 2)).toNat ∧
    (identityAt ps i).toNat = (halfAt ps i).toNat * 4294967296 + (wordAt ps (i + 2)).toNat) ∧
  ([AccountState.active, .grace, .held, .closing, .free].map AccountState.code =
      [0x00, 0x01, 0x02, 0x03, 0x04] ∧
    [false, true].map yesNo = [0x00, 0x01] ∧
    (∀ ks : KindSet, (kindByte ks).toNat = ks.toNat) ∧
    (∀ k : NoticeKind, k.bit = (1#7 : KindSet) <<< k.number.val) ∧
    [NoticeKind.low, .grace, .held, .resumed, .silent, .gap, .closed].map NoticeKind.number =
      [0, 1, 2, 3, 4, 5, 6] ∧
    (∀ (r : RxSlot) (state : Byte), (r.state = .waiting ∧ state = 1 ∨ r.isInTable = true ∧ state = 2 ∨
        r.isReady = true ∧ state = 3 ∨ r.isSending = true ∧ state = 4) →
      r.statusByte = state + (if r.late then 16 else 0) + (if r.discard then 32 else 0)) ∧
    (∀ (l : Line) (place : Nat), l.slots[place]? = none → l.slotByte place = 0) ∧
    (∀ (l : Line) (place : Nat) r, l.slots[place]? = some r → l.slotByte place = r.statusByte) ∧
    (∀ c : LineCounters, c.bytes = [c.goodReports, c.crcErrors, c.framingErrors, c.kindErrors,
      c.overruns, c.lateReplies, c.contention, c.repliesSent, c.duplicates,
      c.unknownReports].flatMap bytes16) ∧
    (∀ bytes phase, (Receiver.assembling bytes phase).held = bytes.length) ∧
    [Receiver.off, .listening, .muted].map Receiver.held = [0, 0, 0] ∧
    [LineMode.disabled, .monitor, .active, .echo].map LineMode.code = [0x00, 0x01, 0x02, 0x03] ∧
    [Rate.r2400, .r9600, .r19200, .r38400].map Rate.code = [0x00, 0x01, 0x02, 0x03] ∧
    [Receiver.off, .listening, .muted].map Receiver.code = [0x00, 0x01, 0x03] ∧
    (∀ bytes phase, (Receiver.assembling bytes phase).code = 0x02) ∧
    [UnknownPolicy.hold, .on, .quiet].map UnknownPolicy.code = [0x00, 0x01, 0x02] ∧
    [SupplyCommand.on, .hold].map SupplyCommand.code = [0x00, 0x01] ∧
    [Reason.normal, .grace, .balance, .admin, .closed, .unknown, .test].map Reason.code =
      [0x00, 0x01, 0x02, 0x03, 0x04, 0x05, 0x06] ∧
    [GroupState.quiet, .raised, .served].map GroupState.code = [0x00, 0x01, 0x02] ∧
    [Priority.low, .high].map Priority.code = [0x00, 0x01] ∧
    [StoreState.idle, .checkpoint, .aborting, .wiping].map StoreState.code =
      [0x00, 0x01, 0x02, 0x03] ∧
    [LastResult.none, .complete, .completeWithFailures, .aborted, .wiped, .interrupted].map
      LastResult.code = [0x00, 0x01, 0x02, 0x03, 0x04, 0x05] ∧
    [StartMode.blank, .restore].map startModeCode = [0x00, 0x01] ∧
    [PortState.start, .ready, .fault].map PortState.code = [0x00, 0x01, 0x02])

/-! ### Accounts -/

/-- An ENROL that passes its checks: the identity is indexed with the chosen slot, the record is written
with low armed by comparison and one evaluation, the account joins the silence list (and the grace list
if it was moved to GRACE), its discovery entry goes, occupancy and high-water mark rise. -/
def Obligations.EnrolMakesAnAccount : Prop :=
  ∀ (s : State) r (i : Slot) (c : ClassNo) (g : GroupNo) (ix : Index), s.Serving .enrol r →
    enrolParamsOk r.params → (byteAt r.params 6).toNat = c.val →
    (byteAt r.params 7).toNat = g.val → s.index.lookup (identityAt r.params 0) = none →
    s.EnrolTakes r.params i → s.index.insert? (identityAt r.params 0) i = some ix →
    let a := s.imageEnrolled r.params c g
    ∃ t, s.Answers .enrol r t (.ok (num16 i.val ++ [a.state.code])) ∧
      t.account i =
        { image := a, silent := false, pending := moveKind .active a.state, dirty := true } ∧
      s.SameElsewhere t i ∧
      s.notices.Gained t.notices g (moveKind .active a.state) ∧
      t = { s with
        table := t.table
        index := ix
        supv := (s.supv.graceMoved i .active a.state).joinSilence i
        discovery := { s.discovery with
          entries := s.discovery.entries.filter fun e => e.identity != identityAt r.params 0 }
        occupancy := s.occupancy + 1
        highWater := max s.highWater (s.occupancy + 1)
        notices := t.notices
        snapshot := (s.copyBeforeWrite i).snapshot }

/-- The checks of ENROL in order: parameters, DUPLICATE, SLOT_TAKEN or TABLE_FULL, INDEX_FULL; a refused
ENROL changes nothing. -/
def Obligations.EnrolIsRefusedInOrder : Prop :=
  ∀ (s : State) r, s.Serving .enrol r →
    let id := identityAt r.params 0
    (¬enrolParamsOk r.params → s.Refuses .enrol r .badParam) ∧
    (enrolParamsOk r.params → ∀ j, s.index.lookup id = some j → s.Refuses .enrol r .duplicate) ∧
    (enrolParamsOk r.params → s.index.lookup id = none →
      (∀ i : Slot, (byteAt r.params 12).getLsbD 0 = true → (halfAt r.params 13).toNat = i.val →
        s.isFree i = false → s.Refuses .enrol r .slotTaken) ∧
      ((byteAt r.params 12).getLsbD 0 = false → (∀ i, s.isFree i = false) →
        s.Refuses .enrol r .tableFull) ∧
      (∀ i, s.EnrolTakes r.params i → s.index.insert? id i = none →
        s.Refuses .enrol r .indexFull))

/-- ACCOUNT_READ answers every field of a non-FREE slot; FIND answers slot and state of an indexed
identity, NOT_FOUND of another and BAD_PARAM of the two invalid ones; TABLE_STATUS answers the eight
figures; HIGHWATER_RESET sets the mark to the occupancy. -/
def Obligations.TableRequestsAnswer : Prop :=
  (∀ (s : State) r (i : Slot), s.Serving .accountRead r → (halfAt r.params 0).toNat = i.val →
    s.isFree i = false →
    let a := (s.account i).image
    let present := fun (b : Bool) (v : Nat) => if b then v else 0
    s.Answers .accountRead r s (.ok (
      num16 i.val ++ [a.state.code] ++ bytes48 a.identity ++ num8 a.tariffClass.val ++
      num8 a.group.val ++ [yesNo a.suspended] ++ bytes32 a.balance ++ bytes32 a.consumption ++
      num8 (present a.lowOverride.isSome 1 + present a.lastSequence.isSome 2 +
        present a.lastLine.isSome 4 + present a.lastTime.isSome 8) ++
      bytes32 (a.lowOverride.getD 0) ++
      bytes32 (match a.lowOverride with
        | some level => level
        | none => s.tariff.live[a.tariffClass].low) ++
      [yesNo a.lowArmed, a.lastSequence.getD 0] ++ num8 (a.lastLine.getD 0).val ++
      bytes32 (a.lastTime.getD 0) ++ bytes16 a.reportCount ++
      [a.gapCount, yesNo (s.account i).silent, kindByte (s.account i).pending,
        yesNo (s.account i).dirty]))) ∧
  (∀ (s : State) r, s.Serving .find r →
    let id := identityAt r.params 0
    (id = 0 ∨ id = 0xFFFFFFFFFFFF → s.Refuses .find r .badParam) ∧
    (id ≠ 0 → id ≠ 0xFFFFFFFFFFFF →
      (s.index.lookup id = none → s.Refuses .find r .notFound) ∧
      (∀ i, s.index.lookup id = some i → s.Answers .find r s
        (.ok (num16 i.val ++ [(s.account i).image.state.code]))))) ∧
  (∀ (s : State) r lowest, s.Serving .tableStatus r →
    ((∃ i : Slot, lowest = num16 i.val ∧ s.isFree i = true ∧ ∀ j, j < i → s.isFree j = false) ∨
      lowest = [0xFF, 0xFF] ∧ ∀ i, s.isFree i = false) →
    let inState := fun st => allSlots.countP fun i => (s.account i).image.state == st
    s.Answers .tableStatus r s (.ok (
      num16 s.occupancy ++ num16 s.highWater ++ lowest ++ num16 (inState .active) ++
      num16 (inState .grace) ++ num16 (inState .held) ++ num16 (inState .closing) ++
      num8 s.index.spill.length))) ∧
  (∀ (s : State) r, s.Serving .highwaterReset r →
    s.Answers .highwaterReset r { s with highWater := s.occupancy } (.ok (num16 s.occupancy)))

/-- Every request that names a slot: a slot above 1023 or another parameter out of range is BAD_PARAM,
then a FREE slot is NO_ACCOUNT, then SET_CLASS, RETIRE and SUSPEND of a CLOSING account are
WRONG_STATE; a refused request changes nothing. -/
def Obligations.SlotRequestsAreRefusedInOrder : Prop :=
  ∀ (q : Req) (c : Instr), (q, c) ∈ slotRequests → ∀ (s : State) r, s.Serving q r →
    (1023 < (halfAt r.params 0).toNat ∨ ¬q.restOk r.params → s.Refuses c r .badParam) ∧
    ∀ i : Slot, (halfAt r.params 0).toNat = i.val → q.restOk r.params →
      (s.isFree i = true → s.Refuses c r .noAccount) ∧
      ((q = .setClass ∨ q = .retire ∨ q = .suspend) → (s.account i).image.state = .closing →
        s.Refuses c r .wrongState)

/-- ADJUST adds the amount to the balance exactly and answers RANGE where the sum leaves the range; the
low check and, but for a CLOSING account, supply evaluation follow. -/
def Obligations.AdjustChangesTheBalance : Prop :=
  ∀ (s : State) r (i : Slot), s.Serving .adjust r → (halfAt r.params 0).toNat = i.val →
    (wordAt r.params 2).toNat ≠ 0 → s.isFree i = false →
    let a := (s.account i).image
    let sum := a.balance.toInt + (wordAt r.params 2).toInt
    (sum < -2147483648 ∨ 2147483647 < sum → s.Refuses .adjust r .range) ∧
    (∀ b : Credit, b.toInt = sum →
      let summed : AccountImage := { a with balance := b }
      let checked : AccountImage := { summed with lowArmed := !s.tariff.belowLow summed }
      let a' : AccountImage :=
        { checked with state := s.tariff.evaluated s.supv.gracePeriod checked }
      ∃ t, s.Answers .adjust r t (.ok (bytes32 b ++ [a'.state.code])) ∧
        s.Changed t i a'
          ((if a.lowArmed = true ∧ a'.lowArmed = false then NoticeKind.bit .low else 0) |||
            moveKind a.state a'.state) ∧
        t = { s with
          table := t.table
          notices := t.notices
          supv := s.supv.graceMoved i a.state a'.state
          snapshot := (s.copyBeforeWrite i).snapshot })

/-- SET_CLASS, SET_LOW and UNSUSPEND set the class, the override and the flag, then evaluate once under
the values set (a CLOSING account, which SET_CLASS refuses, is not evaluated), and answer the state. -/
def Obligations.SettingRequestsEvaluate : Prop :=
  ∀ (s : State) r (i : Slot) (q : Req) (c : Instr) (set : AccountImage), s.Serving q r →
    (halfAt r.params 0).toNat = i.val → s.isFree i = false →
    let a := (s.account i).image
    (q = .setClass ∧ c = .setClass ∧ a.state ≠ .closing ∧
        (∃ k : ClassNo, (byteAt r.params 2).toNat = k.val ∧ set = { a with tariffClass := k }) ∨
      q = .setLow ∧ c = .setLow ∧
        (byteAt r.params 2 = 0x00 ∧ r.params.length = 3 ∧ set = { a with lowOverride := none } ∨
          byteAt r.params 2 = 0x01 ∧ r.params.length = 7 ∧
            set = { a with lowOverride := some (wordAt r.params 3) }) ∨
      q = .unsuspend ∧ c = .unsuspend ∧ (a.state = .closing → a.suspended = true) ∧
        set = { a with suspended := false }) →
    let a' : AccountImage := { set with state := s.tariff.evaluated s.supv.gracePeriod set }
    ∃ t, s.Answers c r t (.ok [a'.state.code]) ∧
      s.Changed t i a' (moveKind a.state a'.state) ∧
      t = { s with
        table := t.table
        notices := t.notices
        supv := s.supv.graceMoved i a.state a'.state
        snapshot := (s.copyBeforeWrite i).snapshot }

/-- SUSPEND sets the flag alone, and changes nothing where it is set; UNSUSPEND of a CLOSING account
whose flag is clear changes nothing; RETIRE makes an ACTIVE, GRACE or HELD account CLOSING with its
CLOSED notice and takes it out of both lists. -/
def Obligations.SuspendAndRetireChangeOneAccount : Prop :=
  (∀ (s : State) r (i : Slot), s.Serving .suspend r → (halfAt r.params 0).toNat = i.val →
    s.isFree i = false → (s.account i).image.state ≠ .closing →
    ((s.account i).image.suspended = true → s.Answers .suspend r s (.ok [])) ∧
    ((s.account i).image.suspended = false → ∃ t, s.Answers .suspend r t (.ok []) ∧
      s.Changed t i { (s.account i).image with suspended := true } 0 ∧
      t = { s with table := t.table, snapshot := (s.copyBeforeWrite i).snapshot })) ∧
  (∀ (s : State) r (i : Slot), s.Serving .unsuspend r → (halfAt r.params 0).toNat = i.val →
    (s.account i).image.state = .closing → (s.account i).image.suspended = false →
    s.Answers .unsuspend r s (.ok [0x03])) ∧
  (∀ (s : State) r (i : Slot), s.Serving .retire r → (halfAt r.params 0).toNat = i.val →
    s.isFree i = false → (s.account i).image.state ≠ .closing →
    ∃ t, s.Answers .retire r t (.ok []) ∧
      s.Changed t i { (s.account i).image with state := .closing } (NoticeKind.bit .closed) ∧
      t = { s with
        table := t.table
        notices := t.notices
        supv := (s.supv.leaveSilence i).leaveGrace i
        snapshot := (s.copyBeforeWrite i).snapshot })

/-- SET_GROUP to the account's own group changes nothing; to another it moves the account and the counts
of its pending kinds, and raises the new group where it is QUIET and becomes eligible. -/
def Obligations.SetGroupMovesTheCounts : Prop :=
  ∀ (s : State) r (i : Slot) (g : GroupNo), s.Serving .setGroup r →
    (halfAt r.params 0).toNat = i.val → (byteAt r.params 2).toNat = g.val →
    s.isFree i = false →
    let a := (s.account i).image
    (a.group = g → s.Answers .setGroup r s (.ok [])) ∧
    (a.group ≠ g →
      (s.notices.groups[g].state = .quiet → s.notices.groups[g].eligible = false) →
      ∃ t m, s.Answers .setGroup r t (.ok []) ∧
        t.account i = { s.account i with image := { a with group := g }, dirty := true } ∧
        s.SameElsewhere t i ∧
        s.notices.Lost m a.group (s.account i).pending ∧
        m.Gained t.notices g (s.account i).pending ∧
        t = { s with
          table := t.table
          notices := t.notices
          snapshot := (s.copyBeforeWrite i).snapshot })

/-- PURGE frees a slot in every state, at once: it answers the final figures, removes the identity from
the index and the account from both lists, takes its pending kinds out of the counts, clears the record
and lowers the occupancy; no group changes state. -/
def Obligations.PurgeFreesTheSlot : Prop :=
  ∀ (s : State) r (i : Slot), s.Serving .purge r → (halfAt r.params 0).toNat = i.val →
    s.isFree i = false →
    let a := (s.account i).image
    ∃ t, s.Answers .purge r t (.ok (bytes48 a.identity ++ [a.state.code] ++ bytes32 a.balance ++
        bytes32 a.consumption)) ∧
      t.account i = { Record.free with dirty := true } ∧
      s.SameElsewhere t i ∧
      s.notices.Lost t.notices a.group (s.account i).pending ∧
      t = { s with
        table := t.table
        occupancy := s.occupancy - 1
        index := s.index.remove a.identity
        supv := (s.supv.leaveSilence i).leaveGrace i
        notices := t.notices
        snapshot := (s.copyBeforeWrite i).snapshot }

/-! ### The identity index -/

/-- Insertion takes the lowest empty way of the bucket, else the end of the spill list, else is refused;
removal from a way promotes the oldest spill entry of the bucket into it; removal from the spill list
closes it up. No other way and no other entry changes. -/
def Obligations.IndexPlacesAndRemovesEntries : Prop :=
  ∀ (ix : Index) (id : Identity) (slot : Slot),
    let b := bucketOf id
    let onlyWay := fun (w : Fin 4) (e : Option IndexEntry) (jx : Index) =>
      (jx.bucket b)[w] = e ∧ (∀ v : Fin 4, v ≠ w → (jx.bucket b)[v] = (ix.bucket b)[v]) ∧
        ∀ b', b' ≠ b → jx.bucket b' = ix.bucket b'
    (∀ w : Fin 4, (ix.bucket b)[w] = none → (∀ v : Fin 4, v < w → (ix.bucket b)[v] ≠ none) →
      ∃ jx, ix.insert? id slot = some jx ∧ jx.spill = ix.spill ∧
        onlyWay w (some { identity := id, slot := slot }) jx) ∧
    ((∀ w : Fin 4, (ix.bucket b)[w] ≠ none) →
      (ix.spill.length < 16 → ix.insert? id slot = some
        { ix with spill := ix.spill ++ [{ identity := id, slot := slot, bucket := b }] }) ∧
      (16 ≤ ix.spill.length → ix.insert? id slot = none)) ∧
    (∀ (w : Fin 4) e, (ix.bucket b)[w] = some e → e.identity = id →
      (∀ (v : Fin 4) f, (ix.bucket b)[v] = some f → f.identity = id → v = w) →
      ix.lookup id = some e.slot ∧
      ((∀ x ∈ ix.spill, x.bucket ≠ b) →
        (ix.remove id).spill = ix.spill ∧ onlyWay w none (ix.remove id)) ∧
      (∀ pre x post, ix.spill = pre ++ x :: post → x.bucket = b → (∀ y ∈ pre, y.bucket ≠ b) →
        (ix.remove id).spill = pre ++ post ∧
          onlyWay w (some { identity := x.identity, slot := x.slot }) (ix.remove id))) ∧
    ((∀ (w : Fin 4) e, (ix.bucket b)[w] = some e → e.identity ≠ id) →
      (∀ pre x post, ix.spill = pre ++ x :: post → x.bucket = b ∧ x.identity = id →
        (∀ y ∈ pre, y.bucket = b → y.identity ≠ id) →
        ix.lookup id = some x.slot ∧ ix.remove id = { ix with spill := pre ++ post }) ∧
      ((∀ x ∈ ix.spill, x.bucket = b → x.identity ≠ id) → ix.lookup id = none))

/-! ### Tariffs and the discovery list -/

/-- TARIFF_STAGE replaces one staged class; TARIFF_READ answers one class of either copy; TARIFF_COMMIT
makes the staged copy live, or answers the lowest class that fails and changes nothing; TARIFF_DISCARD
makes the live copy staged; SET_BAND sets the band and answers the one before. -/
def Obligations.TariffRequestsAnswer : Prop :=
  (∀ (s : State) r, s.Serving .tariffStage r →
    (∀ c : ClassNo, (byteAt r.params 0).toNat = c.val → s.Answers .tariffStage r
      { s with tariff := { s.tariff with
        staged := s.tariff.staged.set c
          { price := #v[halfAt r.params 1, halfAt r.params 3, halfAt r.params 5, halfAt r.params 7]
            low := wordAt r.params 9
            hold := wordAt r.params 13
            resume := wordAt r.params 17 } } } (.ok [])) ∧
    (15 < (byteAt r.params 0).toNat → s.Refuses .tariffStage r .badParam)) ∧
  (∀ (s : State) r, s.Serving .tariffRead r →
    (∀ (c : ClassNo) (copy : Vector TariffClass 16), (byteAt r.params 0).toNat = c.val →
      (byteAt r.params 1 = 0x00 ∧ copy = s.tariff.live ∨
        byteAt r.params 1 = 0x01 ∧ copy = s.tariff.staged) →
      s.Answers .tariffRead r s (.ok (
        [byteAt r.params 0, byteAt r.params 1] ++ bytes16 copy[c].price[0] ++
        bytes16 copy[c].price[1] ++ bytes16 copy[c].price[2] ++ bytes16 copy[c].price[3] ++
        bytes32 copy[c].low ++ bytes32 copy[c].hold ++ bytes32 copy[c].resume))) ∧
    (15 < (byteAt r.params 0).toNat ∨ 1 < (byteAt r.params 1).toNat →
      s.Refuses .tariffRead r .badParam)) ∧
  (∀ (s : State) r, s.Serving .tariffCommit r →
    ((∀ c : ClassNo, s.tariff.staged[c].hold.toInt < s.tariff.staged[c].resume.toInt) →
      s.Answers .tariffCommit r
        { s with tariff := { s.tariff with live := s.tariff.staged } } (.ok [])) ∧
    (∀ c : ClassNo, s.tariff.staged[c].resume.toInt ≤ s.tariff.staged[c].hold.toInt →
      (∀ d : ClassNo, d < c → s.tariff.staged[d].hold.toInt < s.tariff.staged[d].resume.toInt) →
      s.Answers .tariffCommit r s { result := .stagedInvalid, bytes := num8 c.val })) ∧
  (∀ (s : State) r, s.Serving .tariffDiscard r →
    s.Answers .tariffDiscard r
      { s with tariff := { s.tariff with staged := s.tariff.live } } (.ok [])) ∧
  (∀ (s : State) r, s.Serving .setBand r →
    (∀ b : Fin 4, (byteAt r.params 0).toNat = b.val → s.Answers .setBand r
      { s with tariff := { s.tariff with band := b } } (.ok (num8 s.tariff.band.val))) ∧
    (3 < (byteAt r.params 0).toNat → s.Refuses .setBand r .badParam))

/-- SET_UNKNOWN_POLICY sets the policy and answers the one before; DISCOVERY_TAKE removes and answers
the oldest entry, NONE where there is none; DISCOVERY_CLEAR answers the two figures and empties the list
and the overflow count. -/
def Obligations.DiscoveryRequestsAnswer : Prop :=
  (∀ (s : State) r, s.Serving .setUnknownPolicy r →
    (∀ p, byteAt r.params 0 = UnknownPolicy.code p → s.Answers .setUnknownPolicy r
      { s with discovery := { s.discovery with policy := p } } (.ok [s.discovery.policy.code])) ∧
    (2 < (byteAt r.params 0).toNat → s.Refuses .setUnknownPolicy r .badParam)) ∧
  (∀ (s : State) r, s.Serving .discoveryTake r →
    (s.discovery.entries = [] → s.Refuses .discoveryTake r .none) ∧
    (∀ e es, s.discovery.entries = e :: es → s.Answers .discoveryTake r
      { s with discovery := { s.discovery with entries := es } }
      (.ok (bytes48 e.identity ++ num8 e.line.val ++ bytes32 e.firstSeen ++
        [e.sightings, e.lastSequence] ++ num8 es.length ++ bytes16 s.discovery.overflow)))) ∧
  (∀ (s : State) r, s.Serving .discoveryClear r →
    s.Answers .discoveryClear r
      { s with discovery := { s.discovery with entries := [], overflow := 0 } }
      (.ok (num8 s.discovery.entries.length ++ bytes16 s.discovery.overflow)))

/-! ### Notices -/

/-- GROUP_CONFIG sets mask and priority and tests a QUIET group; NOTICE_ACK makes a group QUIET and tests
it at once; NOTICE_ENABLE sets the enable and answers the one before; GROUP_STATUS answers the group. -/
def Obligations.GroupRequestsAnswer : Prop :=
  (∀ (s : State) r, s.Serving .groupConfig r →
    (∀ (g : GroupNo) (mask : KindSet) (p : Priority), (byteAt r.params 0).toNat = g.val →
      (byteAt r.params 1).toNat = mask.toNat → byteAt r.params 2 = Priority.code p →
      let group := s.notices.groups[g]
      let raises := ∃ k : Fin 7, KindSet.has mask k = true ∧ 0 < group.count[k]
      ∀ st, (raises → group.state = .quiet → st = .raised) →
        (¬raises ∨ group.state ≠ .quiet → st = group.state) →
        s.Answers .groupConfig r
          { s with notices := { s.notices with
            groups := s.notices.groups.set g
              { group with mask := mask, priority := p, state := st } } } (.ok [])) ∧
    (7 < (byteAt r.params 0).toNat ∨ 127 < (byteAt r.params 1).toNat ∨
      1 < (byteAt r.params 2).toNat → s.Refuses .groupConfig r .badParam)) ∧
  (∀ (s : State) r, s.Serving .noticeAck r →
    (∀ g : GroupNo, (byteAt r.params 0).toNat = g.val →
      let group := s.notices.groups[g]
      (group.state = .quiet → s.Answers .noticeAck r s (.ok [0x00])) ∧
      (group.state ≠ .quiet → ∀ st, st = (if group.eligible then GroupState.raised else .quiet) →
        s.Answers .noticeAck r
          { s with notices := { s.notices with
            groups := s.notices.groups.set g { group with state := st } } } (.ok [st.code]))) ∧
    (7 < (byteAt r.params 0).toNat → s.Refuses .noticeAck r .badParam)) ∧
  (∀ (s : State) r, s.Serving .noticeEnable r →
    (∀ on : Bool, byteAt r.params 0 = (if on then 0x01 else 0x00) →
      s.Answers .noticeEnable r { s with notices := { s.notices with enable := on } }
        (.ok [if s.notices.enable then 0x01 else 0x00])) ∧
    (1 < (byteAt r.params 0).toNat → s.Refuses .noticeEnable r .badParam)) ∧
  (∀ (s : State) r, s.Serving .groupStatus r →
    (∀ g : GroupNo, (byteAt r.params 0).toNat = g.val →
      let group := s.notices.groups[g]
      s.Answers .groupStatus r s (.ok (
        [byteAt r.params 0, group.state.code, kindByte group.mask, group.priority.code] ++
        num16 group.count[0] ++ num16 group.count[1] ++ num16 group.count[2] ++
        num16 group.count[3] ++ num16 group.count[4] ++ num16 group.count[5] ++
        num16 group.count[6]))) ∧
    (7 < (byteAt r.params 0).toNat → s.Refuses .groupStatus r .badParam))

/-- NOTICE_CLEAR clears the kinds both named and pending from the record and the counts and answers
them; where there are none nothing changes. No group changes state. -/
def Obligations.NoticeClearClearsNamedKinds : Prop :=
  ∀ (s : State) r (i : Slot) (ks : KindSet), s.Serving .noticeClear r →
    (halfAt r.params 0).toNat = i.val → (byteAt r.params 2).toNat = ks.toNat →
    s.isFree i = false →
    let cleared := (s.account i).pending &&& ks
    (cleared = 0 → s.Answers .noticeClear r s (.ok [0x00])) ∧
    (cleared ≠ 0 → ∃ t, s.Answers .noticeClear r t (.ok [cleared.setWidth 8]) ∧
      t.account i = { s.account i with pending := (s.account i).pending &&& ~~~ks } ∧
      s.SameElsewhere t i ∧
      s.notices.Lost t.notices (s.account i).image.group cleared ∧
      t = { s with
        table := t.table
        notices := t.notices
        snapshot := (s.copyBeforeWrite i).snapshot })

/-- NOTICE_FETCH chooses its group, returns the enabled pending kinds of the lowest account that has
any and clears them, and serves a RAISED group; a fetch that returns CLOSED completes the retirement;
one that finds no account answers NONE and still serves; ANY with no group RAISED changes nothing. -/
def Obligations.NoticeFetchReturnsOneAccount : Prop :=
  ∀ (s : State) r, s.Serving .noticeFetch r →
    (∀ g : GroupNo, s.Chooses (byteAt r.params 0) g →
      let served := fun n : Notices =>
        { n with groups := n.groups.set g { n.groups[g] with
            state := if n.groups[g].state = .raised then .served else n.groups[g].state } }
      ((∀ i, ¬s.Finds g i) →
        s.Answers .noticeFetch r { s with notices := served s.notices }
          { result := .none, bytes := num8 g.val }) ∧
      (∀ i, s.Finds g i →
        let a := (s.account i).image
        let kinds := (s.account i).pending &&& s.notices.groups[g].mask
        let freed := KindSet.has kinds NoticeKind.closed.number
        ∃ t m, s.Answers .noticeFetch r t
            (.ok (num8 g.val ++ num16 i.val ++ bytes48 a.identity ++ [a.state.code] ++
              bytes32 a.balance ++ bytes32 a.consumption ++ [kindByte kinds, yesNo freed])) ∧
          s.SameElsewhere t i ∧
          s.notices.Lost m g (if freed then (s.account i).pending else kinds) ∧
          (freed = false →
            t.account i =
              { s.account i with
                pending := (s.account i).pending &&& ~~~s.notices.groups[g].mask } ∧
            t = { s with
              table := t.table
              notices := served m
              snapshot := (s.copyBeforeWrite i).snapshot }) ∧
          (freed = true →
            t.account i = { Record.free with dirty := true } ∧
            t = { s with
              table := t.table
              occupancy := s.occupancy - 1
              index := s.index.remove a.identity
              supv := (s.supv.leaveSilence i).leaveGrace i
              notices := served m
              snapshot := (s.copyBeforeWrite i).snapshot }))) ∧
    (byteAt r.params 0 = 0xFF → (∀ g : GroupNo, s.notices.groups[g].state ≠ .raised) →
      s.Answers .noticeFetch r s { result := .none, bytes := [0xFF] }) ∧
    (7 < (byteAt r.params 0).toNat → byteAt r.params 0 ≠ 0xFF →
      s.Refuses .noticeFetch r .badParam)

/-! ### What every step keeps -/

/-- The state after reset meets every invariant below. -/
def Obligations.ResetMeetsTheInvariants : Prop :=
  State.reset.TablesCanonical ∧ State.reset.StartIsReset ∧ State.reset.LinesOk ∧
    State.reset.QueuesOk ∧ State.reset.snapshot.Agrees ∧ State.reset.store.Ok ∧
    State.reset.TariffsOk ∧ State.reset.Sound

/-- The account table, the shadow records and the index buckets keep their canonical form (the
model's own way of holding them). -/
def Obligations.StepKeepsTheCanonicalForm : Prop :=
  ∀ s t : State, s.TablesCanonical → step s = .next t → t.TablesCanonical

/-- Until its start-up the part stays as its reset left it, whatever the outside sends (what the store
holds between a reset and its start-up is the model's choice, log 7). -/
def Obligations.StepKeepsTheResetState : Prop :=
  ∀ s t : State, s.StartIsReset → step s = .next t → t.StartIsReset

/-- Every line keeps its rules: its receive slots, its receiver, its transmitter and its return
order. -/
def Obligations.StepKeepsTheLines : Prop :=
  ∀ s t : State, s.LinesOk → step s = .next t → t.LinesOk

/-- The two queues of the port never hold more than their room, and a request in execution always finds
room for its response. -/
def Obligations.StepKeepsTheQueues : Prop :=
  ∀ s t : State, s.QueuesOk → step s = .next t → t.QueuesOk

/-- The totals of the snapshot are the sums over its present shadows, and the sweep has captured every
slot below its cursor, at every moment. -/
def Obligations.StepKeepsTheSnapshotTotals : Prop :=
  ∀ s t : State, s.snapshot.Agrees → step s = .next t → t.snapshot.Agrees

/-- The state of the store, its claim and its page in progress agree, and the live tariffs, with those
a start-up could load, have every resume level above its hold level. -/
def Obligations.StepKeepsStoreAndTariffs : Prop :=
  (∀ s t : State, s.store.Ok → step s = .next t → t.store.Ok) ∧
  (∀ s t : State, s.TariffsOk → step s = .next t → t.TariffsOk)

/-- The index holds exactly one entry for each non-FREE slot and none for a FREE one, a spill entry only
while its bucket's ways are full; occupancy is the number of non-FREE slots; FREE slots are clean; the
discovery list holds no identity of an account. -/
def Obligations.StepKeepsTheIndexWithTheTable : Prop :=
  ∀ s t : State, s.Sound → step s = .next t →
    t.FreeIsClean ∧ t.IndexAgrees ∧ t.OccupancyAgrees ∧ t.DiscoveryAgrees

/-- An account stands in the grace list exactly while it is GRACE and in the silence list exactly while
it is open and not SILENT, both lists in the order of time; every group's counts are those of the
records, CLOSED is pending on CLOSING accounts alone, and no QUIET group is left eligible. -/
def Obligations.StepKeepsListsAndNoticeCounts : Prop :=
  ∀ s t : State, s.Sound → step s = .next t → t.ListsAgree ∧ t.NoticesAgree

/-- Outside resets and start-up, the state of a slot changes only by the moves of R6, each by its own
command. -/
def Obligations.StatesMoveByTheTable : Prop :=
  ∀ (s t : State) (c : Instr) (rest : List Instr) (i : Slot), s.Sound → s.pending = c :: rest →
    step s = .next t → c ≠ .startUp → c ≠ .partReset → (∀ event mode, c ≠ .pinReset event mode) →
    (t.account i).image.state = (s.account i).image.state ∨
      AccountState.moves c (s.account i).image.state (t.account i).image.state
end

