-- ==== Sys2Proof/Laws/Sparse.lean ====
section
/-! SUPPORT. Laws of sparse maps: what a key reads as after a write, and that every write keeps the
canonical form. -/

namespace Sys2Proof.Machine

section
variable {n : Nat} {α : Type} {d : α} {m : Sparse n α} {i j : Fin n} {a : α}

@[simp] theorem Sparse.get_nil : Sparse.get d ([] : Sparse n α) j = d := rfl

/-- A key that is not listed reads as the default. -/
theorem Sparse.get_of_not_mem (h : ∀ p ∈ m, p.1 ≠ i) : Sparse.get d m i = d := by
  induction m with
  | nil => rfl
  | cons p m ih =>
    simp only [Sparse.get]
    rw [if_neg (h p (by simp)), ih fun q hq => h q (by simp [hq])]

/-- Reading after the entries of a key are taken out. -/
theorem Sparse.get_filter :
    Sparse.get d (m.filter fun p => decide (p.1 ≠ i)) j = if j = i then d else Sparse.get d m j := by
  induction m with
  | nil => simp
  | cons p m ih =>
    by_cases hp : p.1 = i
    · rw [List.filter_cons_of_neg (by simp [hp]), ih]
      by_cases hj : j = i
      · simp [hj]
      · have : ¬p.1 = j := fun h => hj (h ▸ hp)
        simp [Sparse.get, hj, this]
    · rw [List.filter_cons_of_pos (by simp [hp])]
      simp only [Sparse.get, ih]
      by_cases hj : j = i
      · simp [hj, hp]
      · simp [hj]

/-- Reading after a key that is not listed is put in. -/
theorem Sparse.get_insert (h : ∀ p ∈ m, p.1 ≠ i) :
    Sparse.get d (Sparse.insert i a m) j = if j = i then a else Sparse.get d m j := by
  induction m with
  | nil => simp [Sparse.insert, Sparse.get, eq_comm]
  | cons p m ih =>
    have hm : ∀ q ∈ m, q.1 ≠ i := fun q hq => h q (by simp [hq])
    simp only [Sparse.insert]
    split
    · simp [Sparse.get, eq_comm]
    · simp only [Sparse.get, ih hm]
      by_cases hj : j = i
      · have : ¬p.1 = i := h p (by simp)
        simp [hj, this]
      · simp [hj]

/-- The key is gone from the filtered entries. -/
theorem Sparse.not_mem_filter :
    ∀ p ∈ m.filter fun p => decide (p.1 ≠ i), p.1 ≠ i := by
  intro p hp
  simpa using (List.mem_filter.mp hp).2

/-- Reading after a write. -/
@[simp] theorem Sparse.get_set [DecidableEq α] :
    Sparse.get d (Sparse.set d m i a) j = if j = i then a else Sparse.get d m j := by
  simp only [Sparse.set]
  split
  · next h => rw [Sparse.get_filter, h]
  · rw [Sparse.get_insert Sparse.not_mem_filter, Sparse.get_filter]
    split <;> rfl

/-- The entries after a key is put in. -/
theorem Sparse.mem_insert {p : Fin n × α} :
    p ∈ Sparse.insert i a m ↔ p = (i, a) ∨ p ∈ m := by
  induction m with
  | nil => simp [Sparse.insert]
  | cons q m ih =>
    simp only [Sparse.insert]
    split
    · simp
    · simp only [List.mem_cons, ih]
      exact ⟨fun h => by rcases h with h | h | h <;> simp [h],
        fun h => by rcases h with h | h | h <;> simp [h]⟩

/-- Putting in a key that is not listed keeps the keys strictly rising. -/
theorem Sparse.sorted_insert (hs : m.Pairwise fun p q => p.1 < q.1) (h : ∀ p ∈ m, p.1 ≠ i) :
    (Sparse.insert i a m).Pairwise fun p q => p.1 < q.1 := by
  induction m with
  | nil => simp [Sparse.insert]
  | cons q m ih =>
    have hm : ∀ p ∈ m, p.1 ≠ i := fun p hp => h p (by simp [hp])
    rw [List.pairwise_cons] at hs
    simp only [Sparse.insert]
    split
    · next hlt =>
      refine List.pairwise_cons.mpr ⟨?_, List.pairwise_cons.mpr hs⟩
      intro p hp
      rcases List.mem_cons.mp hp with rfl | hp
      · exact hlt
      · exact Fin.lt_trans hlt (hs.1 p hp)
    · next hnlt =>
      have hq : q.1 < i := by
        have := h q (by simp)
        rcases Nat.lt_trichotomy q.1.val i.val with hlt | heq | hgt
        · exact hlt
        · exact absurd (Fin.ext heq) this
        · exact absurd hgt hnlt
      refine List.pairwise_cons.mpr ⟨?_, ih hs.2 hm⟩
      intro p hp
      rcases Sparse.mem_insert.mp hp with rfl | hp
      · exact hq
      · exact hs.1 p hp

/-- The empty map is canonical. -/
theorem Sparse.wf_nil : Sparse.wf d ([] : Sparse n α) := by simp [Sparse.wf]

/-- Every write keeps the canonical form. -/
theorem Sparse.wf_set [DecidableEq α] (h : Sparse.wf d m) : Sparse.wf d (Sparse.set d m i a) := by
  have hf : Sparse.wf d (m.filter fun p => decide (p.1 ≠ i)) :=
    ⟨h.1.filter _, fun p hp => h.2 p (List.mem_filter.mp hp).1⟩
  simp only [Sparse.set]
  split
  · exact hf
  · next hne =>
    refine ⟨Sparse.sorted_insert hf.1 Sparse.not_mem_filter, fun p hp => ?_⟩
    rcases Sparse.mem_insert.mp hp with rfl | hp
    · exact hne
    · exact hf.2 p hp

/-- Two canonical maps with the same keys and values listed are equal: what is listed is what is
read. -/
theorem Sparse.mem_iff_get (h : Sparse.wf d m) (ha : a ≠ d) :
    (i, a) ∈ m ↔ Sparse.get d m i = a := by
  induction m with
  | nil => simpa using Ne.symm ha
  | cons p m ih =>
    have hm : Sparse.wf d m := ⟨(List.pairwise_cons.mp h.1).2, fun q hq => h.2 q (by simp [hq])⟩
    simp only [Sparse.get, List.mem_cons]
    by_cases hp : p.1 = i
    · rw [if_pos hp]
      constructor
      · rintro (h' | h')
        · rw [← h']
        · exact absurd ((List.pairwise_cons.mp h.1).1 _ h') (by simp [hp])
      · intro h'
        exact Or.inl (by rw [← h', ← hp])
    · rw [if_neg hp, ← ih hm]
      constructor
      · rintro (h' | h')
        · exact absurd (by rw [← h']) hp
        · exact h'
      · exact Or.inr

end

end Sys2Proof.Machine
end

