-- ==== Sys2Proof/Laws/State.lean ====
section
/-! SUPPORT. What each update of the state leaves in each field: one lemma per field per update, true
by rfl, so that no later proof unfolds a record update. -/

namespace Sys2Proof.Machine

section
variable (s : State) (i : Slot)

/-! ### One record -/

@[simp] theorem State.setAccount_table (r : Record) :
    (s.setAccount i r).table = Sparse.set Record.free s.table i r := rfl
@[simp] theorem State.setAccount_occupancy (r : Record) :
    (s.setAccount i r).occupancy = s.occupancy := rfl
@[simp] theorem State.setAccount_highWater (r : Record) :
    (s.setAccount i r).highWater = s.highWater := rfl
@[simp] theorem State.setAccount_rotation (r : Record) :
    (s.setAccount i r).rotation = s.rotation := rfl
@[simp] theorem State.setAccount_index (r : Record) : (s.setAccount i r).index = s.index := rfl
@[simp] theorem State.setAccount_tariff (r : Record) : (s.setAccount i r).tariff = s.tariff := rfl
@[simp] theorem State.setAccount_lines (r : Record) : (s.setAccount i r).lines = s.lines := rfl
@[simp] theorem State.setAccount_discovery (r : Record) :
    (s.setAccount i r).discovery = s.discovery := rfl
@[simp] theorem State.setAccount_supv (r : Record) : (s.setAccount i r).supv = s.supv := rfl
@[simp] theorem State.setAccount_notices (r : Record) :
    (s.setAccount i r).notices = s.notices := rfl
@[simp] theorem State.setAccount_snapshot (r : Record) :
    (s.setAccount i r).snapshot = s.snapshot := rfl
@[simp] theorem State.setAccount_store (r : Record) : (s.setAccount i r).store = s.store := rfl
@[simp] theorem State.setAccount_port (r : Record) : (s.setAccount i r).port = s.port := rfl
@[simp] theorem State.setAccount_resetHeld (r : Record) :
    (s.setAccount i r).resetHeld = s.resetHeld := rfl
@[simp] theorem State.setAccount_freeCount (r : Record) :
    (s.setAccount i r).freeCount = s.freeCount := rfl
@[simp] theorem State.setAccount_pending (r : Record) :
    (s.setAccount i r).pending = s.pending := rfl

/-! ### The image of a record -/

@[simp] theorem State.updateImage_occupancy (f : AccountImage → AccountImage) :
    (s.updateImage i f).occupancy = s.occupancy := rfl
@[simp] theorem State.updateImage_highWater (f : AccountImage → AccountImage) :
    (s.updateImage i f).highWater = s.highWater := rfl
@[simp] theorem State.updateImage_rotation (f : AccountImage → AccountImage) :
    (s.updateImage i f).rotation = s.rotation := rfl
@[simp] theorem State.updateImage_index (f : AccountImage → AccountImage) :
    (s.updateImage i f).index = s.index := rfl
@[simp] theorem State.updateImage_tariff (f : AccountImage → AccountImage) :
    (s.updateImage i f).tariff = s.tariff := rfl
@[simp] theorem State.updateImage_lines (f : AccountImage → AccountImage) :
    (s.updateImage i f).lines = s.lines := rfl
@[simp] theorem State.updateImage_discovery (f : AccountImage → AccountImage) :
    (s.updateImage i f).discovery = s.discovery := rfl
@[simp] theorem State.updateImage_supv (f : AccountImage → AccountImage) :
    (s.updateImage i f).supv = s.supv := rfl
@[simp] theorem State.updateImage_notices (f : AccountImage → AccountImage) :
    (s.updateImage i f).notices = s.notices := rfl
@[simp] theorem State.updateImage_snapshot (f : AccountImage → AccountImage) :
    (s.updateImage i f).snapshot = s.snapshot := rfl
@[simp] theorem State.updateImage_store (f : AccountImage → AccountImage) :
    (s.updateImage i f).store = s.store := rfl
@[simp] theorem State.updateImage_port (f : AccountImage → AccountImage) :
    (s.updateImage i f).port = s.port := rfl
@[simp] theorem State.updateImage_resetHeld (f : AccountImage → AccountImage) :
    (s.updateImage i f).resetHeld = s.resetHeld := rfl
@[simp] theorem State.updateImage_freeCount (f : AccountImage → AccountImage) :
    (s.updateImage i f).freeCount = s.freeCount := rfl
@[simp] theorem State.updateImage_pending (f : AccountImage → AccountImage) :
    (s.updateImage i f).pending = s.pending := rfl

/-! ### The state of an account -/

@[simp] theorem State.setState_occupancy (st : AccountState) :
    (s.setState i st).occupancy = s.occupancy := rfl
@[simp] theorem State.setState_highWater (st : AccountState) :
    (s.setState i st).highWater = s.highWater := rfl
@[simp] theorem State.setState_rotation (st : AccountState) :
    (s.setState i st).rotation = s.rotation := rfl
@[simp] theorem State.setState_index (st : AccountState) : (s.setState i st).index = s.index := rfl
@[simp] theorem State.setState_tariff (st : AccountState) :
    (s.setState i st).tariff = s.tariff := rfl
@[simp] theorem State.setState_lines (st : AccountState) : (s.setState i st).lines = s.lines := rfl
@[simp] theorem State.setState_discovery (st : AccountState) :
    (s.setState i st).discovery = s.discovery := rfl
@[simp] theorem State.setState_supv (st : AccountState) : (s.setState i st).supv = s.supv := rfl
@[simp] theorem State.setState_notices (st : AccountState) :
    (s.setState i st).notices = s.notices := rfl
@[simp] theorem State.setState_snapshot (st : AccountState) :
    (s.setState i st).snapshot = s.snapshot := rfl
@[simp] theorem State.setState_store (st : AccountState) : (s.setState i st).store = s.store := rfl
@[simp] theorem State.setState_port (st : AccountState) : (s.setState i st).port = s.port := rfl
@[simp] theorem State.setState_resetHeld (st : AccountState) :
    (s.setState i st).resetHeld = s.resetHeld := rfl
@[simp] theorem State.setState_freeCount (st : AccountState) :
    (s.setState i st).freeCount = s.freeCount := rfl
@[simp] theorem State.setState_pending (st : AccountState) :
    (s.setState i st).pending = s.pending := rfl

/-! ### SILENT -/

@[simp] theorem State.setSilent_occupancy (v : Bool) :
    (s.setSilent i v).occupancy = s.occupancy := rfl
@[simp] theorem State.setSilent_highWater (v : Bool) :
    (s.setSilent i v).highWater = s.highWater := rfl
@[simp] theorem State.setSilent_rotation (v : Bool) : (s.setSilent i v).rotation = s.rotation := rfl
@[simp] theorem State.setSilent_index (v : Bool) : (s.setSilent i v).index = s.index := rfl
@[simp] theorem State.setSilent_tariff (v : Bool) : (s.setSilent i v).tariff = s.tariff := rfl
@[simp] theorem State.setSilent_lines (v : Bool) : (s.setSilent i v).lines = s.lines := rfl
@[simp] theorem State.setSilent_discovery (v : Bool) :
    (s.setSilent i v).discovery = s.discovery := rfl
@[simp] theorem State.setSilent_supv (v : Bool) : (s.setSilent i v).supv = s.supv := rfl
@[simp] theorem State.setSilent_notices (v : Bool) : (s.setSilent i v).notices = s.notices := rfl
@[simp] theorem State.setSilent_snapshot (v : Bool) : (s.setSilent i v).snapshot = s.snapshot := rfl
@[simp] theorem State.setSilent_store (v : Bool) : (s.setSilent i v).store = s.store := rfl
@[simp] theorem State.setSilent_port (v : Bool) : (s.setSilent i v).port = s.port := rfl
@[simp] theorem State.setSilent_resetHeld (v : Bool) :
    (s.setSilent i v).resetHeld = s.resetHeld := rfl
@[simp] theorem State.setSilent_freeCount (v : Bool) :
    (s.setSilent i v).freeCount = s.freeCount := rfl
@[simp] theorem State.setSilent_pending (v : Bool) : (s.setSilent i v).pending = s.pending := rfl

/-! ### Pending kinds cleared -/

@[simp] theorem State.clearKinds_occupancy (ks : KindSet) :
    (s.clearKinds i ks).occupancy = s.occupancy := rfl
@[simp] theorem State.clearKinds_highWater (ks : KindSet) :
    (s.clearKinds i ks).highWater = s.highWater := rfl
@[simp] theorem State.clearKinds_rotation (ks : KindSet) :
    (s.clearKinds i ks).rotation = s.rotation := rfl
@[simp] theorem State.clearKinds_index (ks : KindSet) : (s.clearKinds i ks).index = s.index := rfl
@[simp] theorem State.clearKinds_tariff (ks : KindSet) :
    (s.clearKinds i ks).tariff = s.tariff := rfl
@[simp] theorem State.clearKinds_lines (ks : KindSet) : (s.clearKinds i ks).lines = s.lines := rfl
@[simp] theorem State.clearKinds_discovery (ks : KindSet) :
    (s.clearKinds i ks).discovery = s.discovery := rfl
@[simp] theorem State.clearKinds_supv (ks : KindSet) : (s.clearKinds i ks).supv = s.supv := rfl
@[simp] theorem State.clearKinds_notices (ks : KindSet) :
    (s.clearKinds i ks).notices = s.notices.update (s.account i).image.group fun g =>
      g.dropKinds ((s.account i).pending &&& ks) := rfl
@[simp] theorem State.clearKinds_snapshot (ks : KindSet) :
    (s.clearKinds i ks).snapshot = s.snapshot := rfl
@[simp] theorem State.clearKinds_store (ks : KindSet) : (s.clearKinds i ks).store = s.store := rfl
@[simp] theorem State.clearKinds_port (ks : KindSet) : (s.clearKinds i ks).port = s.port := rfl
@[simp] theorem State.clearKinds_resetHeld (ks : KindSet) :
    (s.clearKinds i ks).resetHeld = s.resetHeld := rfl
@[simp] theorem State.clearKinds_freeCount (ks : KindSet) :
    (s.clearKinds i ks).freeCount = s.freeCount := rfl
@[simp] theorem State.clearKinds_pending (ks : KindSet) :
    (s.clearKinds i ks).pending = s.pending := rfl

/-! ### Supervision -/

@[simp] theorem State.updateSupv_table (f : Supervision → Supervision) :
    (s.updateSupv f).table = s.table := rfl
@[simp] theorem State.updateSupv_occupancy (f : Supervision → Supervision) :
    (s.updateSupv f).occupancy = s.occupancy := rfl
@[simp] theorem State.updateSupv_highWater (f : Supervision → Supervision) :
    (s.updateSupv f).highWater = s.highWater := rfl
@[simp] theorem State.updateSupv_rotation (f : Supervision → Supervision) :
    (s.updateSupv f).rotation = s.rotation := rfl
@[simp] theorem State.updateSupv_index (f : Supervision → Supervision) :
    (s.updateSupv f).index = s.index := rfl
@[simp] theorem State.updateSupv_tariff (f : Supervision → Supervision) :
    (s.updateSupv f).tariff = s.tariff := rfl
@[simp] theorem State.updateSupv_lines (f : Supervision → Supervision) :
    (s.updateSupv f).lines = s.lines := rfl
@[simp] theorem State.updateSupv_discovery (f : Supervision → Supervision) :
    (s.updateSupv f).discovery = s.discovery := rfl
@[simp] theorem State.updateSupv_supv (f : Supervision → Supervision) :
    (s.updateSupv f).supv = f s.supv := rfl
@[simp] theorem State.updateSupv_notices (f : Supervision → Supervision) :
    (s.updateSupv f).notices = s.notices := rfl
@[simp] theorem State.updateSupv_snapshot (f : Supervision → Supervision) :
    (s.updateSupv f).snapshot = s.snapshot := rfl
@[simp] theorem State.updateSupv_store (f : Supervision → Supervision) :
    (s.updateSupv f).store = s.store := rfl
@[simp] theorem State.updateSupv_port (f : Supervision → Supervision) :
    (s.updateSupv f).port = s.port := rfl
@[simp] theorem State.updateSupv_resetHeld (f : Supervision → Supervision) :
    (s.updateSupv f).resetHeld = s.resetHeld := rfl
@[simp] theorem State.updateSupv_freeCount (f : Supervision → Supervision) :
    (s.updateSupv f).freeCount = s.freeCount := rfl
@[simp] theorem State.updateSupv_pending (f : Supervision → Supervision) :
    (s.updateSupv f).pending = s.pending := rfl

/-! ### One line -/

@[simp] theorem State.updateLine_table (n : LineNo) (f : Line → Line) :
    (s.updateLine n f).table = s.table := rfl
@[simp] theorem State.updateLine_occupancy (n : LineNo) (f : Line → Line) :
    (s.updateLine n f).occupancy = s.occupancy := rfl
@[simp] theorem State.updateLine_highWater (n : LineNo) (f : Line → Line) :
    (s.updateLine n f).highWater = s.highWater := rfl
@[simp] theorem State.updateLine_rotation (n : LineNo) (f : Line → Line) :
    (s.updateLine n f).rotation = s.rotation := rfl
@[simp] theorem State.updateLine_index (n : LineNo) (f : Line → Line) :
    (s.updateLine n f).index = s.index := rfl
@[simp] theorem State.updateLine_tariff (n : LineNo) (f : Line → Line) :
    (s.updateLine n f).tariff = s.tariff := rfl
@[simp] theorem State.updateLine_lines (n : LineNo) (f : Line → Line) :
    (s.updateLine n f).lines = s.lines.set n (f s.lines[n]) := rfl
@[simp] theorem State.updateLine_discovery (n : LineNo) (f : Line → Line) :
    (s.updateLine n f).discovery = s.discovery := rfl
@[simp] theorem State.updateLine_supv (n : LineNo) (f : Line → Line) :
    (s.updateLine n f).supv = s.supv := rfl
@[simp] theorem State.updateLine_notices (n : LineNo) (f : Line → Line) :
    (s.updateLine n f).notices = s.notices := rfl
@[simp] theorem State.updateLine_snapshot (n : LineNo) (f : Line → Line) :
    (s.updateLine n f).snapshot = s.snapshot := rfl
@[simp] theorem State.updateLine_store (n : LineNo) (f : Line → Line) :
    (s.updateLine n f).store = s.store := rfl
@[simp] theorem State.updateLine_port (n : LineNo) (f : Line → Line) :
    (s.updateLine n f).port = s.port := rfl
@[simp] theorem State.updateLine_resetHeld (n : LineNo) (f : Line → Line) :
    (s.updateLine n f).resetHeld = s.resetHeld := rfl
@[simp] theorem State.updateLine_freeCount (n : LineNo) (f : Line → Line) :
    (s.updateLine n f).freeCount = s.freeCount := rfl
@[simp] theorem State.updateLine_pending (n : LineNo) (f : Line → Line) :
    (s.updateLine n f).pending = s.pending := rfl

/-! ### One group -/

@[simp] theorem State.updateGroup_table (g : GroupNo) (f : Group → Group) :
    (s.updateGroup g f).table = s.table := rfl
@[simp] theorem State.updateGroup_occupancy (g : GroupNo) (f : Group → Group) :
    (s.updateGroup g f).occupancy = s.occupancy := rfl
@[simp] theorem State.updateGroup_highWater (g : GroupNo) (f : Group → Group) :
    (s.updateGroup g f).highWater = s.highWater := rfl
@[simp] theorem State.updateGroup_rotation (g : GroupNo) (f : Group → Group) :
    (s.updateGroup g f).rotation = s.rotation := rfl
@[simp] theorem State.updateGroup_index (g : GroupNo) (f : Group → Group) :
    (s.updateGroup g f).index = s.index := rfl
@[simp] theorem State.updateGroup_tariff (g : GroupNo) (f : Group → Group) :
    (s.updateGroup g f).tariff = s.tariff := rfl
@[simp] theorem State.updateGroup_lines (g : GroupNo) (f : Group → Group) :
    (s.updateGroup g f).lines = s.lines := rfl
@[simp] theorem State.updateGroup_discovery (g : GroupNo) (f : Group → Group) :
    (s.updateGroup g f).discovery = s.discovery := rfl
@[simp] theorem State.updateGroup_supv (g : GroupNo) (f : Group → Group) :
    (s.updateGroup g f).supv = s.supv := rfl
@[simp] theorem State.updateGroup_notices (g : GroupNo) (f : Group → Group) :
    (s.updateGroup g f).notices = s.notices.update g f := rfl
@[simp] theorem State.updateGroup_snapshot (g : GroupNo) (f : Group → Group) :
    (s.updateGroup g f).snapshot = s.snapshot := rfl
@[simp] theorem State.updateGroup_store (g : GroupNo) (f : Group → Group) :
    (s.updateGroup g f).store = s.store := rfl
@[simp] theorem State.updateGroup_port (g : GroupNo) (f : Group → Group) :
    (s.updateGroup g f).port = s.port := rfl
@[simp] theorem State.updateGroup_resetHeld (g : GroupNo) (f : Group → Group) :
    (s.updateGroup g f).resetHeld = s.resetHeld := rfl
@[simp] theorem State.updateGroup_freeCount (g : GroupNo) (f : Group → Group) :
    (s.updateGroup g f).freeCount = s.freeCount := rfl
@[simp] theorem State.updateGroup_pending (g : GroupNo) (f : Group → Group) :
    (s.updateGroup g f).pending = s.pending := rfl

/-! ### The store -/

@[simp] theorem State.updateStore_table (f : Store → Store) :
    (s.updateStore f).table = s.table := rfl
@[simp] theorem State.updateStore_occupancy (f : Store → Store) :
    (s.updateStore f).occupancy = s.occupancy := rfl
@[simp] theorem State.updateStore_highWater (f : Store → Store) :
    (s.updateStore f).highWater = s.highWater := rfl
@[simp] theorem State.updateStore_rotation (f : Store → Store) :
    (s.updateStore f).rotation = s.rotation := rfl
@[simp] theorem State.updateStore_index (f : Store → Store) :
    (s.updateStore f).index = s.index := rfl
@[simp] theorem State.updateStore_tariff (f : Store → Store) :
    (s.updateStore f).tariff = s.tariff := rfl
@[simp] theorem State.updateStore_lines (f : Store → Store) :
    (s.updateStore f).lines = s.lines := rfl
@[simp] theorem State.updateStore_discovery (f : Store → Store) :
    (s.updateStore f).discovery = s.discovery := rfl
@[simp] theorem State.updateStore_supv (f : Store → Store) : (s.updateStore f).supv = s.supv := rfl
@[simp] theorem State.updateStore_notices (f : Store → Store) :
    (s.updateStore f).notices = s.notices := rfl
@[simp] theorem State.updateStore_snapshot (f : Store → Store) :
    (s.updateStore f).snapshot = s.snapshot := rfl
@[simp] theorem State.updateStore_store (f : Store → Store) :
    (s.updateStore f).store = f s.store := rfl
@[simp] theorem State.updateStore_port (f : Store → Store) : (s.updateStore f).port = s.port := rfl
@[simp] theorem State.updateStore_resetHeld (f : Store → Store) :
    (s.updateStore f).resetHeld = s.resetHeld := rfl
@[simp] theorem State.updateStore_freeCount (f : Store → Store) :
    (s.updateStore f).freeCount = s.freeCount := rfl
@[simp] theorem State.updateStore_pending (f : Store → Store) :
    (s.updateStore f).pending = s.pending := rfl

/-! ### The port -/

@[simp] theorem State.updatePort_table (f : Port → Port) : (s.updatePort f).table = s.table := rfl
@[simp] theorem State.updatePort_occupancy (f : Port → Port) :
    (s.updatePort f).occupancy = s.occupancy := rfl
@[simp] theorem State.updatePort_highWater (f : Port → Port) :
    (s.updatePort f).highWater = s.highWater := rfl
@[simp] theorem State.updatePort_rotation (f : Port → Port) :
    (s.updatePort f).rotation = s.rotation := rfl
@[simp] theorem State.updatePort_index (f : Port → Port) : (s.updatePort f).index = s.index := rfl
@[simp] theorem State.updatePort_tariff (f : Port → Port) :
    (s.updatePort f).tariff = s.tariff := rfl
@[simp] theorem State.updatePort_lines (f : Port → Port) : (s.updatePort f).lines = s.lines := rfl
@[simp] theorem State.updatePort_discovery (f : Port → Port) :
    (s.updatePort f).discovery = s.discovery := rfl
@[simp] theorem State.updatePort_supv (f : Port → Port) : (s.updatePort f).supv = s.supv := rfl
@[simp] theorem State.updatePort_notices (f : Port → Port) :
    (s.updatePort f).notices = s.notices := rfl
@[simp] theorem State.updatePort_snapshot (f : Port → Port) :
    (s.updatePort f).snapshot = s.snapshot := rfl
@[simp] theorem State.updatePort_store (f : Port → Port) : (s.updatePort f).store = s.store := rfl
@[simp] theorem State.updatePort_port (f : Port → Port) : (s.updatePort f).port = f s.port := rfl
@[simp] theorem State.updatePort_resetHeld (f : Port → Port) :
    (s.updatePort f).resetHeld = s.resetHeld := rfl
@[simp] theorem State.updatePort_freeCount (f : Port → Port) :
    (s.updatePort f).freeCount = s.freeCount := rfl
@[simp] theorem State.updatePort_pending (f : Port → Port) :
    (s.updatePort f).pending = s.pending := rfl

/-! ### The rotation position -/

@[simp] theorem State.turn_table (c : Claimant) : (s.turn c).table = s.table := rfl
@[simp] theorem State.turn_occupancy (c : Claimant) : (s.turn c).occupancy = s.occupancy := rfl
@[simp] theorem State.turn_highWater (c : Claimant) : (s.turn c).highWater = s.highWater := rfl
@[simp] theorem State.turn_rotation (c : Claimant) : (s.turn c).rotation = c.after := rfl
@[simp] theorem State.turn_index (c : Claimant) : (s.turn c).index = s.index := rfl
@[simp] theorem State.turn_tariff (c : Claimant) : (s.turn c).tariff = s.tariff := rfl
@[simp] theorem State.turn_lines (c : Claimant) : (s.turn c).lines = s.lines := rfl
@[simp] theorem State.turn_discovery (c : Claimant) : (s.turn c).discovery = s.discovery := rfl
@[simp] theorem State.turn_supv (c : Claimant) : (s.turn c).supv = s.supv := rfl
@[simp] theorem State.turn_notices (c : Claimant) : (s.turn c).notices = s.notices := rfl
@[simp] theorem State.turn_snapshot (c : Claimant) : (s.turn c).snapshot = s.snapshot := rfl
@[simp] theorem State.turn_store (c : Claimant) : (s.turn c).store = s.store := rfl
@[simp] theorem State.turn_port (c : Claimant) : (s.turn c).port = s.port := rfl
@[simp] theorem State.turn_resetHeld (c : Claimant) : (s.turn c).resetHeld = s.resetHeld := rfl
@[simp] theorem State.turn_freeCount (c : Claimant) : (s.turn c).freeCount = s.freeCount := rfl
@[simp] theorem State.turn_pending (c : Claimant) : (s.turn c).pending = s.pending := rfl

/-! ### The end of a request -/

@[simp] theorem State.finish_table (r : Request) (a : Answer) :
    (s.finish r a).table = s.table := rfl
@[simp] theorem State.finish_occupancy (r : Request) (a : Answer) :
    (s.finish r a).occupancy = s.occupancy := rfl
@[simp] theorem State.finish_highWater (r : Request) (a : Answer) :
    (s.finish r a).highWater = s.highWater := rfl
@[simp] theorem State.finish_rotation (r : Request) (a : Answer) :
    (s.finish r a).rotation = s.rotation := rfl
@[simp] theorem State.finish_index (r : Request) (a : Answer) :
    (s.finish r a).index = s.index := rfl
@[simp] theorem State.finish_tariff (r : Request) (a : Answer) :
    (s.finish r a).tariff = s.tariff := rfl
@[simp] theorem State.finish_lines (r : Request) (a : Answer) :
    (s.finish r a).lines = s.lines := rfl
@[simp] theorem State.finish_discovery (r : Request) (a : Answer) :
    (s.finish r a).discovery = s.discovery := rfl
@[simp] theorem State.finish_supv (r : Request) (a : Answer) : (s.finish r a).supv = s.supv := rfl
@[simp] theorem State.finish_notices (r : Request) (a : Answer) :
    (s.finish r a).notices = s.notices := rfl
@[simp] theorem State.finish_snapshot (r : Request) (a : Answer) :
    (s.finish r a).snapshot = s.snapshot := rfl
@[simp] theorem State.finish_store (r : Request) (a : Answer) :
    (s.finish r a).store = s.store := rfl
@[simp] theorem State.finish_port (r : Request) (a : Answer) :
    (s.finish r a).port = { s.port with
      executing := none
      responses := s.port.responses ++ responseBytes r.tag r.req.code a } := rfl
@[simp] theorem State.finish_resetHeld (r : Request) (a : Answer) :
    (s.finish r a).resetHeld = s.resetHeld := rfl
@[simp] theorem State.finish_freeCount (r : Request) (a : Answer) :
    (s.finish r a).freeCount = s.freeCount := rfl
@[simp] theorem State.finish_pending (r : Request) (a : Answer) :
    (s.finish r a).pending = s.pending := rfl

end

end Sys2Proof.Machine
end

