-- ==== Sys2Proof/Laws/Ops.lean ====
section
/-! SUPPORT. What each shared operation does, said once: which record it changes, and which fields of
the state it leaves. -/

namespace Sys2Proof.Machine

section
variable (s : State) (i j : Slot)

/-! ### Records -/

/-- The records depend on the table alone. -/
theorem State.account_of_table {s t : State} (h : s.table = t.table) : s.account j = t.account j := by
  simp [State.account, h]

@[simp] theorem State.account_setAccount (r : Record) :
    (s.setAccount i r).account j = if j = i then r else s.account j := by
  simp [State.account]

@[simp] theorem State.account_updateImage (f : AccountImage → AccountImage) :
    (s.updateImage i f).account j =
      if j = i then { s.account i with image := f (s.account i).image } else s.account j := by
  simp [State.updateImage]

@[simp] theorem State.account_setState (st : AccountState) :
    (s.setState i st).account j =
      if j = i then { s.account i with image := { (s.account i).image with state := st } }
      else s.account j := by
  simp [State.setState]

@[simp] theorem State.account_setSilent (v : Bool) :
    (s.setSilent i v).account j =
      if j = i then { s.account i with silent := v } else s.account j := by
  simp [State.setSilent]

@[simp] theorem State.account_clearKinds (ks : KindSet) :
    (s.clearKinds i ks).account j =
      if j = i then { s.account i with pending := (s.account i).pending &&& ~~~ks }
      else s.account j := by
  show (s.setAccount i _).account j = _
  simp

@[simp] theorem State.account_updateSupv (f : Supervision → Supervision) :
    (s.updateSupv f).account j = s.account j := rfl

@[simp] theorem State.account_updateLine (n : LineNo) (f : Line → Line) :
    (s.updateLine n f).account j = s.account j := rfl

@[simp] theorem State.account_updateGroup (g : GroupNo) (f : Group → Group) :
    (s.updateGroup g f).account j = s.account j := rfl

@[simp] theorem State.account_updateStore (f : Store → Store) :
    (s.updateStore f).account j = s.account j := rfl

@[simp] theorem State.account_updatePort (f : Port → Port) :
    (s.updatePort f).account j = s.account j := rfl

@[simp] theorem State.account_turn (c : Claimant) : (s.turn c).account j = s.account j := rfl

@[simp] theorem State.account_finish (r : Request) (a : Answer) :
    (s.finish r a).account j = s.account j := rfl

@[simp] theorem State.account_copyBeforeWrite :
    (s.copyBeforeWrite i).account j = s.account j := by
  unfold State.copyBeforeWrite; split <;> rfl

/-- Dirty is set exactly where the image has changed (R4). -/
@[simp] theorem State.account_settleDirty (before : AccountImage) :
    (s.settleDirty i before).account j =
      if j = i then
        { s.account i with dirty := (s.account i).dirty || decide ((s.account i).image ≠ before) }
      else s.account j := by
  unfold State.settleDirty
  split
  · next h =>
    split
    · next hj => subst hj; subst h; simp
    · rfl
  · next h => simp [h]

/-- A bit of a set that is pending adds nothing to it. -/
theorem KindSet.or_bit_of_has {ks : KindSet} {k : NoticeKind} (h : KindSet.has ks k.number = true) :
    ks ||| k.bit = ks := by
  have : ∀ ks : BitVec 7, ∀ k : NoticeKind, ks.getLsbD k.number.val = true → ks ||| k.bit = ks := by
    intro ks k hk
    apply BitVec.eq_of_getLsbD_eq
    intro n hn
    rw [BitVec.getLsbD_or]
    simp only [NoticeKind.bit, BitVec.getLsbD_twoPow]
    by_cases h : k.number.val = n
    · subst h; simp [hk]
    · simp [h]
  exact this ks k h

/-- Setting a kind leaves it pending (R132). -/
@[simp] theorem State.account_setKind (k : NoticeKind) :
    (s.setKind i k).account j =
      if j = i then { s.account i with pending := (s.account i).pending ||| k.bit }
      else s.account j := by
  by_cases h : KindSet.has (s.account i).pending k.number = true
  · have : s.setKind i k = s := by simp only [State.setKind, h, if_true]
    rw [this]
    split
    · next hj => subst hj; rw [KindSet.or_bit_of_has h]
    · rfl
  · have : (s.setKind i k).table = (s.setAccount i
        { s.account i with pending := (s.account i).pending ||| k.bit }).table := by
      simp only [State.setKind, h]; rfl
    rw [State.account_of_table j this]
    simp

/-! ### Requests -/

/-- A request in execution is the one that the executor took. -/
theorem State.inExecution_eq {q : Req} {r : Request} :
    s.inExecution q = some r ↔
      s.port.opened = true ∧ s.port.executing = some r ∧ r.req = q := by
  unfold State.inExecution
  split
  · next h => simp [h, Option.filter_eq_some_iff]
  · next h => simp [h]

/-- A request that needs a grant either waits, or its work runs with the turn passed to SUPV. -/
theorem State.grantRequest_cases (q : Req) (work : List Byte → State → State × Answer) :
    s.grantRequest q work = s ∨
      ∃ r, s.port.opened = true ∧ s.port.executing = some r ∧ r.req = q ∧
        s.granted = some .exec ∧
        s.grantRequest q work =
          (work r.params (s.turn .exec)).1.finish r (work r.params (s.turn .exec)).2 := by
  unfold State.grantRequest
  split
  · exact Or.inl rfl
  · next r h =>
    split
    · next hg =>
      obtain ⟨ho, he, hr⟩ := (State.inExecution_eq s).mp h
      exact Or.inr ⟨r, ho, he, hr, hg, rfl⟩
    · exact Or.inl rfl

/-- A request that claims no grant either is not in execution, or its work runs. -/
theorem State.directRequest_cases (q : Req) (work : List Byte → State → State × Answer) :
    s.directRequest q work = s ∨
      ∃ r, s.port.opened = true ∧ s.port.executing = some r ∧ r.req = q ∧
        s.directRequest q work = (work r.params s).1.finish r (work r.params s).2 := by
  unfold State.directRequest
  split
  · exact Or.inl rfl
  · next r h =>
    obtain ⟨ho, he, hr⟩ := (State.inExecution_eq s).mp h
    exact Or.inr ⟨r, ho, he, hr, rfl⟩

/-! ### The sixteen slots and their lists -/

/-- A slot is in a list without another slot exactly when it is in the list and is not that slot. -/
theorem mem_withoutSlot {es : List TimedEntry} {e : TimedEntry} :
    e ∈ withoutSlot es i ↔ e ∈ es ∧ e.slot ≠ i := by
  simp [withoutSlot]

/-- Every slot is listed among all slots. -/
@[simp] theorem mem_allSlots : i ∈ allSlots := List.mem_finRange i

end

end Sys2Proof.Machine
end

