-- ==== Sys2Proof/Laws/Frames.lean ====
section
/-! SUPPORT. The frame of each shared operation that chooses between cases: which fields of the state
it leaves in every case. -/

namespace Sys2Proof.Machine

section
variable (s : State) (i : Slot)

/-! ### Copy-before-write -/

@[simp] theorem State.copyBeforeWrite_table :
    (s.copyBeforeWrite i).table = s.table := by
  unfold State.copyBeforeWrite; split <;> rfl

@[simp] theorem State.copyBeforeWrite_occupancy :
    (s.copyBeforeWrite i).occupancy = s.occupancy := by
  unfold State.copyBeforeWrite; split <;> rfl

@[simp] theorem State.copyBeforeWrite_highWater :
    (s.copyBeforeWrite i).highWater = s.highWater := by
  unfold State.copyBeforeWrite; split <;> rfl

@[simp] theorem State.copyBeforeWrite_rotation :
    (s.copyBeforeWrite i).rotation = s.rotation := by
  unfold State.copyBeforeWrite; split <;> rfl

@[simp] theorem State.copyBeforeWrite_index :
    (s.copyBeforeWrite i).index = s.index := by
  unfold State.copyBeforeWrite; split <;> rfl

@[simp] theorem State.copyBeforeWrite_tariff :
    (s.copyBeforeWrite i).tariff = s.tariff := by
  unfold State.copyBeforeWrite; split <;> rfl

@[simp] theorem State.copyBeforeWrite_lines :
    (s.copyBeforeWrite i).lines = s.lines := by
  unfold State.copyBeforeWrite; split <;> rfl

@[simp] theorem State.copyBeforeWrite_discovery :
    (s.copyBeforeWrite i).discovery = s.discovery := by
  unfold State.copyBeforeWrite; split <;> rfl

@[simp] theorem State.copyBeforeWrite_supv :
    (s.copyBeforeWrite i).supv = s.supv := by
  unfold State.copyBeforeWrite; split <;> rfl

@[simp] theorem State.copyBeforeWrite_notices :
    (s.copyBeforeWrite i).notices = s.notices := by
  unfold State.copyBeforeWrite; split <;> rfl

@[simp] theorem State.copyBeforeWrite_store :
    (s.copyBeforeWrite i).store = s.store := by
  unfold State.copyBeforeWrite; split <;> rfl

@[simp] theorem State.copyBeforeWrite_port :
    (s.copyBeforeWrite i).port = s.port := by
  unfold State.copyBeforeWrite; split <;> rfl

@[simp] theorem State.copyBeforeWrite_resetHeld :
    (s.copyBeforeWrite i).resetHeld = s.resetHeld := by
  unfold State.copyBeforeWrite; split <;> rfl

@[simp] theorem State.copyBeforeWrite_freeCount :
    (s.copyBeforeWrite i).freeCount = s.freeCount := by
  unfold State.copyBeforeWrite; split <;> rfl

@[simp] theorem State.copyBeforeWrite_pending :
    (s.copyBeforeWrite i).pending = s.pending := by
  unfold State.copyBeforeWrite; split <;> rfl

/-! ### The dirty flag -/

@[simp] theorem State.settleDirty_occupancy (a : AccountImage) :
    (s.settleDirty i a).occupancy = s.occupancy := by
  unfold State.settleDirty; split <;> rfl

@[simp] theorem State.settleDirty_highWater (a : AccountImage) :
    (s.settleDirty i a).highWater = s.highWater := by
  unfold State.settleDirty; split <;> rfl

@[simp] theorem State.settleDirty_rotation (a : AccountImage) :
    (s.settleDirty i a).rotation = s.rotation := by
  unfold State.settleDirty; split <;> rfl

@[simp] theorem State.settleDirty_index (a : AccountImage) :
    (s.settleDirty i a).index = s.index := by
  unfold State.settleDirty; split <;> rfl

@[simp] theorem State.settleDirty_tariff (a : AccountImage) :
    (s.settleDirty i a).tariff = s.tariff := by
  unfold State.settleDirty; split <;> rfl

@[simp] theorem State.settleDirty_lines (a : AccountImage) :
    (s.settleDirty i a).lines = s.lines := by
  unfold State.settleDirty; split <;> rfl

@[simp] theorem State.settleDirty_discovery (a : AccountImage) :
    (s.settleDirty i a).discovery = s.discovery := by
  unfold State.settleDirty; split <;> rfl

@[simp] theorem State.settleDirty_supv (a : AccountImage) :
    (s.settleDirty i a).supv = s.supv := by
  unfold State.settleDirty; split <;> rfl

@[simp] theorem State.settleDirty_notices (a : AccountImage) :
    (s.settleDirty i a).notices = s.notices := by
  unfold State.settleDirty; split <;> rfl

@[simp] theorem State.settleDirty_snapshot (a : AccountImage) :
    (s.settleDirty i a).snapshot = s.snapshot := by
  unfold State.settleDirty; split <;> rfl

@[simp] theorem State.settleDirty_store (a : AccountImage) :
    (s.settleDirty i a).store = s.store := by
  unfold State.settleDirty; split <;> rfl

@[simp] theorem State.settleDirty_port (a : AccountImage) :
    (s.settleDirty i a).port = s.port := by
  unfold State.settleDirty; split <;> rfl

@[simp] theorem State.settleDirty_resetHeld (a : AccountImage) :
    (s.settleDirty i a).resetHeld = s.resetHeld := by
  unfold State.settleDirty; split <;> rfl

@[simp] theorem State.settleDirty_freeCount (a : AccountImage) :
    (s.settleDirty i a).freeCount = s.freeCount := by
  unfold State.settleDirty; split <;> rfl

@[simp] theorem State.settleDirty_pending (a : AccountImage) :
    (s.settleDirty i a).pending = s.pending := by
  unfold State.settleDirty; split <;> rfl

/-! ### A notice set -/

@[simp] theorem State.setKind_occupancy (k : NoticeKind) :
    (s.setKind i k).occupancy = s.occupancy := by
  simp only [State.setKind]; split <;> rfl

@[simp] theorem State.setKind_highWater (k : NoticeKind) :
    (s.setKind i k).highWater = s.highWater := by
  simp only [State.setKind]; split <;> rfl

@[simp] theorem State.setKind_rotation (k : NoticeKind) :
    (s.setKind i k).rotation = s.rotation := by
  simp only [State.setKind]; split <;> rfl

@[simp] theorem State.setKind_index (k : NoticeKind) :
    (s.setKind i k).index = s.index := by
  simp only [State.setKind]; split <;> rfl

@[simp] theorem State.setKind_tariff (k : NoticeKind) :
    (s.setKind i k).tariff = s.tariff := by
  simp only [State.setKind]; split <;> rfl

@[simp] theorem State.setKind_lines (k : NoticeKind) :
    (s.setKind i k).lines = s.lines := by
  simp only [State.setKind]; split <;> rfl

@[simp] theorem State.setKind_discovery (k : NoticeKind) :
    (s.setKind i k).discovery = s.discovery := by
  simp only [State.setKind]; split <;> rfl

@[simp] theorem State.setKind_supv (k : NoticeKind) :
    (s.setKind i k).supv = s.supv := by
  simp only [State.setKind]; split <;> rfl

@[simp] theorem State.setKind_snapshot (k : NoticeKind) :
    (s.setKind i k).snapshot = s.snapshot := by
  simp only [State.setKind]; split <;> rfl

@[simp] theorem State.setKind_store (k : NoticeKind) :
    (s.setKind i k).store = s.store := by
  simp only [State.setKind]; split <;> rfl

@[simp] theorem State.setKind_port (k : NoticeKind) :
    (s.setKind i k).port = s.port := by
  simp only [State.setKind]; split <;> rfl

@[simp] theorem State.setKind_resetHeld (k : NoticeKind) :
    (s.setKind i k).resetHeld = s.resetHeld := by
  simp only [State.setKind]; split <;> rfl

@[simp] theorem State.setKind_freeCount (k : NoticeKind) :
    (s.setKind i k).freeCount = s.freeCount := by
  simp only [State.setKind]; split <;> rfl

@[simp] theorem State.setKind_pending (k : NoticeKind) :
    (s.setKind i k).pending = s.pending := by
  simp only [State.setKind]; split <;> rfl

/-! ### The low check -/

@[simp] theorem State.lowCheck_occupancy :
    (s.lowCheck i).occupancy = s.occupancy := by
  simp only [State.lowCheck]; repeat' split
  all_goals simp

@[simp] theorem State.lowCheck_highWater :
    (s.lowCheck i).highWater = s.highWater := by
  simp only [State.lowCheck]; repeat' split
  all_goals simp

@[simp] theorem State.lowCheck_rotation :
    (s.lowCheck i).rotation = s.rotation := by
  simp only [State.lowCheck]; repeat' split
  all_goals simp

@[simp] theorem State.lowCheck_index :
    (s.lowCheck i).index = s.index := by
  simp only [State.lowCheck]; repeat' split
  all_goals simp

@[simp] theorem State.lowCheck_tariff :
    (s.lowCheck i).tariff = s.tariff := by
  simp only [State.lowCheck]; repeat' split
  all_goals simp

@[simp] theorem State.lowCheck_lines :
    (s.lowCheck i).lines = s.lines := by
  simp only [State.lowCheck]; repeat' split
  all_goals simp

@[simp] theorem State.lowCheck_discovery :
    (s.lowCheck i).discovery = s.discovery := by
  simp only [State.lowCheck]; repeat' split
  all_goals simp

@[simp] theorem State.lowCheck_supv :
    (s.lowCheck i).supv = s.supv := by
  simp only [State.lowCheck]; repeat' split
  all_goals simp

@[simp] theorem State.lowCheck_snapshot :
    (s.lowCheck i).snapshot = s.snapshot := by
  simp only [State.lowCheck]; repeat' split
  all_goals simp

@[simp] theorem State.lowCheck_store :
    (s.lowCheck i).store = s.store := by
  simp only [State.lowCheck]; repeat' split
  all_goals simp

@[simp] theorem State.lowCheck_port :
    (s.lowCheck i).port = s.port := by
  simp only [State.lowCheck]; repeat' split
  all_goals simp

@[simp] theorem State.lowCheck_resetHeld :
    (s.lowCheck i).resetHeld = s.resetHeld := by
  simp only [State.lowCheck]; repeat' split
  all_goals simp

@[simp] theorem State.lowCheck_freeCount :
    (s.lowCheck i).freeCount = s.freeCount := by
  simp only [State.lowCheck]; repeat' split
  all_goals simp

@[simp] theorem State.lowCheck_pending :
    (s.lowCheck i).pending = s.pending := by
  simp only [State.lowCheck]; repeat' split
  all_goals simp

/-! ### Supply evaluation -/

@[simp] theorem State.evaluate_occupancy :
    (s.evaluate i).occupancy = s.occupancy := by
  simp only [State.evaluate]; repeat' split
  all_goals simp

@[simp] theorem State.evaluate_highWater :
    (s.evaluate i).highWater = s.highWater := by
  simp only [State.evaluate]; repeat' split
  all_goals simp

@[simp] theorem State.evaluate_rotation :
    (s.evaluate i).rotation = s.rotation := by
  simp only [State.evaluate]; repeat' split
  all_goals simp

@[simp] theorem State.evaluate_index :
    (s.evaluate i).index = s.index := by
  simp only [State.evaluate]; repeat' split
  all_goals simp

@[simp] theorem State.evaluate_tariff :
    (s.evaluate i).tariff = s.tariff := by
  simp only [State.evaluate]; repeat' split
  all_goals simp

@[simp] theorem State.evaluate_lines :
    (s.evaluate i).lines = s.lines := by
  simp only [State.evaluate]; repeat' split
  all_goals simp

@[simp] theorem State.evaluate_discovery :
    (s.evaluate i).discovery = s.discovery := by
  simp only [State.evaluate]; repeat' split
  all_goals simp

@[simp] theorem State.evaluate_snapshot :
    (s.evaluate i).snapshot = s.snapshot := by
  simp only [State.evaluate]; repeat' split
  all_goals simp

@[simp] theorem State.evaluate_store :
    (s.evaluate i).store = s.store := by
  simp only [State.evaluate]; repeat' split
  all_goals simp

@[simp] theorem State.evaluate_port :
    (s.evaluate i).port = s.port := by
  simp only [State.evaluate]; repeat' split
  all_goals simp

@[simp] theorem State.evaluate_resetHeld :
    (s.evaluate i).resetHeld = s.resetHeld := by
  simp only [State.evaluate]; repeat' split
  all_goals simp

@[simp] theorem State.evaluate_freeCount :
    (s.evaluate i).freeCount = s.freeCount := by
  simp only [State.evaluate]; repeat' split
  all_goals simp

@[simp] theorem State.evaluate_pending :
    (s.evaluate i).pending = s.pending := by
  simp only [State.evaluate]; repeat' split
  all_goals simp

/-! ### The silence list after a report -/

@[simp] theorem State.rejoinSilence_occupancy :
    (s.rejoinSilence i).occupancy = s.occupancy := by
  simp only [State.rejoinSilence]; split <;> simp

@[simp] theorem State.rejoinSilence_highWater :
    (s.rejoinSilence i).highWater = s.highWater := by
  simp only [State.rejoinSilence]; split <;> simp

@[simp] theorem State.rejoinSilence_rotation :
    (s.rejoinSilence i).rotation = s.rotation := by
  simp only [State.rejoinSilence]; split <;> simp

@[simp] theorem State.rejoinSilence_index :
    (s.rejoinSilence i).index = s.index := by
  simp only [State.rejoinSilence]; split <;> simp

@[simp] theorem State.rejoinSilence_tariff :
    (s.rejoinSilence i).tariff = s.tariff := by
  simp only [State.rejoinSilence]; split <;> simp

@[simp] theorem State.rejoinSilence_lines :
    (s.rejoinSilence i).lines = s.lines := by
  simp only [State.rejoinSilence]; split <;> simp

@[simp] theorem State.rejoinSilence_discovery :
    (s.rejoinSilence i).discovery = s.discovery := by
  simp only [State.rejoinSilence]; split <;> simp

@[simp] theorem State.rejoinSilence_notices :
    (s.rejoinSilence i).notices = s.notices := by
  simp only [State.rejoinSilence]; split <;> simp

@[simp] theorem State.rejoinSilence_snapshot :
    (s.rejoinSilence i).snapshot = s.snapshot := by
  simp only [State.rejoinSilence]; split <;> simp

@[simp] theorem State.rejoinSilence_store :
    (s.rejoinSilence i).store = s.store := by
  simp only [State.rejoinSilence]; split <;> simp

@[simp] theorem State.rejoinSilence_port :
    (s.rejoinSilence i).port = s.port := by
  simp only [State.rejoinSilence]; split <;> simp

@[simp] theorem State.rejoinSilence_resetHeld :
    (s.rejoinSilence i).resetHeld = s.resetHeld := by
  simp only [State.rejoinSilence]; split <;> simp

@[simp] theorem State.rejoinSilence_freeCount :
    (s.rejoinSilence i).freeCount = s.freeCount := by
  simp only [State.rejoinSilence]; split <;> simp

@[simp] theorem State.rejoinSilence_pending :
    (s.rejoinSilence i).pending = s.pending := by
  simp only [State.rejoinSilence]; split <;> simp

/-! ### A slot freed -/

@[simp] theorem State.freeSlot_highWater :
    (s.freeSlot i).highWater = s.highWater := by
  simp [State.freeSlot]

@[simp] theorem State.freeSlot_rotation :
    (s.freeSlot i).rotation = s.rotation := by
  simp [State.freeSlot]

@[simp] theorem State.freeSlot_tariff :
    (s.freeSlot i).tariff = s.tariff := by
  simp [State.freeSlot]

@[simp] theorem State.freeSlot_lines :
    (s.freeSlot i).lines = s.lines := by
  simp [State.freeSlot]

@[simp] theorem State.freeSlot_discovery :
    (s.freeSlot i).discovery = s.discovery := by
  simp [State.freeSlot]

@[simp] theorem State.freeSlot_store :
    (s.freeSlot i).store = s.store := by
  simp [State.freeSlot]

@[simp] theorem State.freeSlot_port :
    (s.freeSlot i).port = s.port := by
  simp [State.freeSlot]

@[simp] theorem State.freeSlot_resetHeld :
    (s.freeSlot i).resetHeld = s.resetHeld := by
  simp [State.freeSlot]

@[simp] theorem State.freeSlot_freeCount :
    (s.freeSlot i).freeCount = s.freeCount := by
  simp [State.freeSlot]

@[simp] theorem State.freeSlot_pending :
    (s.freeSlot i).pending = s.pending := by
  simp [State.freeSlot]

end

end Sys2Proof.Machine
end

