-- ==== Sys2Proof/Laws/Account.lean ====
section
/-! SUPPORT. What the operations on one account do to its record, to the grace list and to the notice
groups, in the words of Safety.lean: the low check, supply evaluation, a kind set or cleared, a
capture, and a whole change of one account. -/

namespace Sys2Proof.Machine

section
variable (s : State) (i j : Slot)

/-! ### The low check and supply evaluation -/

/-- What the low check leaves in the records (R54). -/
theorem State.account_lowCheck :
    (s.lowCheck i).account j =
      if j = i then
        { s.account i with
          image :=
            { (s.account i).image with lowArmed := !s.tariff.belowLow (s.account i).image }
          pending := (s.account i).pending |||
            if s.tariff.belowLow (s.account i).image && (s.account i).image.lowArmed then
              NoticeKind.bit .low
            else 0 }
      else s.account j := by
  by_cases hj : j = i
  · subst hj
    rw [if_pos rfl]
    by_cases h : (s.tariff.effectiveLow (s.account j).image).toInt ≤ (s.account j).image.balance.toInt
    · have hb : s.tariff.belowLow (s.account j).image = false := by
        simp [TariffUnit.belowLow]; omega
      simp [State.lowCheck, h, hb]
    · have hb : s.tariff.belowLow (s.account j).image = true := by
        simp [TariffUnit.belowLow]; omega
      have ho : (s.account j).pending ||| 0 = (s.account j).pending := BitVec.or_zero
      cases ha : (s.account j).image.lowArmed
      · simp only [State.lowCheck, h, if_false, ha, hb, Bool.not_true, Bool.and_false,
          Bool.false_eq_true, ho]
        conv => rhs; rw [← ha]
      · simp [State.lowCheck, h, ha, hb]
  · simp only [State.lowCheck]
    repeat' split
    all_goals simp [hj]

/-- What supply evaluation leaves in the records (R57). -/
theorem State.account_evaluate :
    (s.evaluate i).account j =
      if j = i then
        { s.account i with
          image :=
            { (s.account i).image with
              state := s.tariff.evaluated s.supv.gracePeriod (s.account i).image }
          pending := (s.account i).pending |||
            moveKind (s.account i).image.state
              (s.tariff.evaluated s.supv.gracePeriod (s.account i).image) }
      else s.account j := by
  by_cases hj : j = i
  · subst hj
    rw [if_pos rfl]
    have same : ∀ st, (s.account j).image.state = st →
        s.account j =
          { s.account j with
            image := { (s.account j).image with state := st }
            pending := (s.account j).pending ||| 0 } := by
      intro st h; subst h; simp
    cases h : (s.account j).image.state <;>
      simp only [State.evaluate, TariffUnit.evaluated, h]
    case free | closing => exact same _ h
    all_goals repeat' split
    all_goals first
      | exact same _ h
      | simp [moveKind]
  · rw [if_neg hj]
    cases h : (s.account i).image.state <;> simp only [State.evaluate, h]
    all_goals repeat' split
    all_goals first
      | rfl
      | simp [hj]

/-- What supply evaluation leaves of the supervision unit (R58, R59, R124). -/
theorem State.evaluate_supv :
    (s.evaluate i).supv = s.supv.graceMoved i (s.account i).image.state
      (s.tariff.evaluated s.supv.gracePeriod (s.account i).image) := by
  cases h : (s.account i).image.state <;>
    simp only [State.evaluate, TariffUnit.evaluated, h]
  all_goals repeat' split
  all_goals simp [Supervision.graceMoved]

/-! ### Kinds and groups -/

/-- The group that is changed, read back. -/
@[simp] theorem Notices.groups_update (n : Notices) (g : GroupNo) (f : Group → Group) :
    (n.update g f).groups[g.val] = f n.groups[g.val] := by simp [Notices.update]

/-- The groups that are not changed. -/
theorem Notices.groups_update_ne (n : Notices) {g h : GroupNo} (f : Group → Group) (hne : h ≠ g) :
    (n.update g f).groups[h] = n.groups[h] := by
  have : (g : Nat) ≠ h := fun e => hne (Fin.ext e.symm)
  simp [Notices.update, this]

@[simp] theorem Notices.enable_update (n : Notices) (g : GroupNo) (f : Group → Group) :
    (n.update g f).enable = n.enable := rfl

/-- What raising leaves alone (R135). -/
theorem Group.raise_eq (g : Group) :
    g.raise = { g with state := if g.state = .quiet ∧ g.eligible = true then .raised else g.state } := by
  unfold Group.raise; split <;> simp_all

/-- A kind set in a record is gained by its group, once (R133, R135). -/
theorem State.setKind_gained (k : NoticeKind) :
    s.notices.Gained (s.setKind i k).notices (s.account i).image.group
      (k.bit &&& ~~~(s.account i).pending) := by
  by_cases h : KindSet.has (s.account i).pending k.number = true
  · have hs : s.setKind i k = s := by simp only [State.setKind, h, if_true]
    have hz : k.bit &&& ~~~(s.account i).pending = 0 := by
      have := KindSet.or_bit_of_has h
      apply BitVec.eq_of_getLsbD_eq
      intro n hn
      have hb := congrArg (fun v => BitVec.getLsbD v n) this
      simp only [BitVec.getLsbD_or, BitVec.getLsbD_and, BitVec.getLsbD_not] at hb ⊢
      revert hb
      cases BitVec.getLsbD (s.account i).pending n <;> cases BitVec.getLsbD k.bit n <;> simp [hn]
    rw [hs, hz]
    refine ⟨rfl, fun _ _ => rfl, rfl, rfl, fun k => by simp [KindSet.has], by simp⟩
  · have hn : (s.setKind i k).notices =
        s.notices.update (s.account i).image.group fun g => (g.addKinds k.bit).raise := by
      simp only [State.setKind, h]; rfl
    have hk : k.bit &&& ~~~(s.account i).pending = k.bit := by
      apply BitVec.eq_of_getLsbD_eq
      intro n hn
      simp only [BitVec.getLsbD_and, BitVec.getLsbD_not, NoticeKind.bit, BitVec.getLsbD_twoPow]
      by_cases he : k.number.val = n
      · subst he
        have : BitVec.getLsbD (s.account i).pending k.number.val = false := by
          simpa [KindSet.has] using h
        simp [-BitVec.getLsbD_eq_getElem, this]
      · simp [he]
    have hne : ¬k.bit = 0#7 := by cases k <;> decide
    rw [hn, hk]
    refine ⟨rfl, fun h' hne' => Notices.groups_update_ne _ _ hne', ?_, ?_, ?_, ?_⟩
    · simp [Group.raise_eq, Group.addKinds]
    · simp [Group.raise_eq, Group.addKinds]
    · intro k'
      simp [Group.raise_eq, Group.addKinds]
    · simp only [Group.raise_eq]
      simp [hne, Group.addKinds, Group.eligible]

/-- Kinds cleared in a record are lost by its group (R133, R145). -/
theorem State.clearKinds_lost (ks : KindSet) :
    s.notices.Lost (s.clearKinds i ks).notices (s.account i).image.group
      ((s.account i).pending &&& ks) := by
  rw [State.clearKinds_notices]
  refine ⟨rfl, fun h hne => Notices.groups_update_ne _ _ hne, ?_, ?_, ?_, ?_⟩
  all_goals simp [Group.dropKinds]

/-- A kind of a union. -/
theorem KindSet.has_or (ks ls : KindSet) (k : Fin 7) :
    KindSet.has (ks ||| ls) k = (KindSet.has ks k || KindSet.has ls k) := by
  simp [KindSet.has]

/-- Nothing gained. -/
theorem Notices.Gained.refl (m : Notices) (g : GroupNo) : m.Gained m g 0 :=
  ⟨rfl, fun _ _ => rfl, rfl, rfl, fun k => by simp [KindSet.has], by simp⟩

/-- A group is eligible when a kind of its mask is counted. -/
theorem Group.eligible_iff (g : Group) :
    g.eligible = true ↔ ∃ k : Fin 7, KindSet.has g.mask k = true ∧ 0 < g.count[k] := by
  simp only [Group.eligible, List.any_eq_true, Bool.and_eq_true, decide_eq_true_eq]
  exact ⟨fun ⟨k, _, h⟩ => ⟨k, h⟩, fun ⟨k, h⟩ => ⟨k, (by decide : ∀ k : Fin 7, k ∈ kindNumbers) k, h⟩⟩

/-- Two gains of the same group, of kinds that do not meet, are one gain. -/
theorem Notices.Gained.trans {m n p : Notices} {g : GroupNo} {ks ls : KindSet}
    (h : m.Gained n g ks) (h' : n.Gained p g ls) (hd : ks &&& ls = 0) :
    m.Gained p g (ks ||| ls) := by
  have hbit : ∀ k : Fin 7, ¬(KindSet.has ks k = true ∧ KindSet.has ls k = true) := by
    intro k ⟨h1, h2⟩
    have := congrArg (fun v => BitVec.getLsbD v k.val) hd
    simp only [KindSet.has] at h1 h2
    simp only [BitVec.getLsbD_and, h1, h2] at this
    simp at this
  have hgrow : n.groups[g].eligible = true → p.groups[g].eligible = true := by
    rw [Group.eligible_iff, Group.eligible_iff]
    rintro ⟨k, hm, hk⟩
    exact ⟨k, by rw [h'.mask]; exact hm, by rw [h'.count]; omega⟩
  have hsame : ls = 0 → p.groups[g].eligible = true → n.groups[g].eligible = true := by
    intro hz
    rw [Group.eligible_iff, Group.eligible_iff]
    rintro ⟨k, hm, hk⟩
    refine ⟨k, by rw [h'.mask] at hm; exact hm, ?_⟩
    have := h'.count k
    simp [hz, KindSet.has] at this
    simp only [Fin.getElem_fin] at hk ⊢
    omega
  have hor : ks ||| ls = 0 ↔ ks = 0 ∧ ls = 0 := by
    constructor
    · intro hz
      constructor
      all_goals
        apply BitVec.eq_of_getLsbD_eq
        intro k hk
        have := congrArg (fun v => BitVec.getLsbD v k) hz
        simp only [BitVec.getLsbD_or] at this
        revert this
        cases BitVec.getLsbD ks k <;> cases BitVec.getLsbD ls k <;> simp
    · rintro ⟨rfl, rfl⟩; simp
  refine ⟨h'.enable.trans h.enable, fun x hx => (h'.others x hx).trans (h.others x hx),
    h'.mask.trans h.mask, h'.priority.trans h.priority, ?_, ?_⟩
  · intro k
    have hk := hbit k
    rw [h'.count, h.count, KindSet.has_or]
    by_cases h1 : KindSet.has ks k = true <;> by_cases h2 : KindSet.has ls k = true
    · exact absurd ⟨h1, h2⟩ hk
    all_goals simp [-Fin.getElem_fin, h1, h2]
  · have hne : ks ||| ls ≠ 0 ↔ ks ≠ 0 ∨ ls ≠ 0 := by
      rw [Ne, hor]; exact Decidable.not_and_iff_not_or_not
    rw [h'.state, h.state]
    generalize m.groups[g].state = q at *
    generalize n.groups[g].eligible = e at *
    generalize p.groups[g].eligible = e' at *
    by_cases hq : q = .quiet
    · subst hq
      by_cases h1 : ks = 0 <;> by_cases h2 : ls = 0 <;> cases e <;> cases e' <;>
        simp_all
    · simp [hq]

/-! ### Captures -/

/-- What a shadow reads as after a capture. -/
theorem Snapshot.capture_captured (sn : Snapshot) (r : Record) :
    sn.Captured (sn.capture i r) i r := by
  by_cases h : r.image.state = .free
  · have hf : r.shadowFields = none := by simp [Record.shadowFields, h]
    refine ⟨?_, ?_, ?_, ?_, ?_, ?_⟩
    all_goals simp +contextual [Snapshot.capture, hf, Snapshot.shadow, h]
  · have hf : r.shadowFields = some
        { identity := r.image.identity, tariffClass := r.image.tariffClass, state := r.image.state,
          suspended := r.image.suspended, balance := r.image.balance,
          consumption := r.image.consumption, reportCount := r.image.reportCount } := by
      simp [Record.shadowFields, h]
    refine ⟨?_, ?_, ?_, ?_, ?_, ?_⟩
    all_goals simp +contextual [Snapshot.capture, hf, Snapshot.shadow, h]

/-- Copy-before-write captures the slot exactly when a snapshot is SWEEPING and has not (R12). -/
theorem State.copyBeforeWrite_snapshot :
    (s.copyBeforeWrite i).snapshot =
      if s.snapshot.state = .sweeping ∧ (s.snapshot.shadow i).captured = false then
        s.snapshot.capture i (s.account i)
      else s.snapshot := by
  unfold State.copyBeforeWrite Snapshot.captureOnce
  by_cases h : s.snapshot.state = .sweeping
  · cases (s.snapshot.shadow i).captured <;> simp [h]
  · simp [h]

end

end Sys2Proof.Machine
end

