-- ==== Sys2Proof/Laws/Requests.lean ====
section
/-! SUPPORT. From "the request is being served" to the state it answers: the two ways a request is
carried out, each said once; and the claims of the arbiter. -/

namespace Sys2Proof.Machine

section
variable {s t : State} {q : Req} {r : Request} {a : Answer}
  {work : List Byte → State → State × Answer}

/-- A request that is being served is in execution. -/
theorem State.Serving.inExecution (h : s.Serving q r) : s.inExecution q = some r :=
  (State.inExecution_eq s).mpr ⟨h.opened, h.executing, h.isReq⟩

/-- Ending a request inside its grant is answering it. -/
theorem State.finish_turn (h : r.req.needsGrant = true) :
    (t.turn .exec).finish r a = t.answered r a := by
  simp [State.finish, State.turn, State.answered, h, Claimant.after]

/-- Ending a request that claims no grant is answering it. -/
theorem State.finish_direct (h : r.req.needsGrant = false) :
    t.finish r a = t.answered r a := by
  simp [State.finish, State.answered, h]

/-- What the work of a granted request gives is what the request answers. -/
theorem State.Serving.grantRequest (h : s.Serving q r) (hq : q.needsGrant = true)
    (hw : work r.params (s.turn .exec) = (t.turn .exec, a)) :
    s.grantRequest q work = t.answered r a := by
  simp only [State.grantRequest, h.inExecution, h.granted hq, if_true, hw]
  exact State.finish_turn (by rw [h.isReq]; exact hq)

/-- What the work of a request without a grant gives is what the request answers. -/
theorem State.Serving.directRequest (h : s.Serving q r) (hq : q.needsGrant = false)
    (hw : work r.params s = (t, a)) : s.directRequest q work = t.answered r a := by
  simp only [State.directRequest, h.inExecution, hw]
  exact State.finish_direct (by rw [h.isReq]; exact hq)

/-- The state that a granted request answers, whatever its work. -/
theorem State.Serving.grantRequest_eq (h : s.Serving q r) (hq : q.needsGrant = true) :
    s.grantRequest q work =
      (work r.params (s.turn .exec)).1.finish r (work r.params (s.turn .exec)).2 := by
  simp only [State.grantRequest, h.inExecution, h.granted hq, if_true]

/-- What a granted request answers, from the state its work leaves: the turn has passed, and nothing
else separates the two. -/
theorem State.Serving.grantRequest_answered (h : s.Serving q r) (hq : q.needsGrant = true)
    (hr : (work r.params (s.turn .exec)).1.rotation = .supv) :
    s.grantRequest q work =
      ({ (work r.params (s.turn .exec)).1 with rotation := s.rotation } : State).answered r
        (work r.params (s.turn .exec)).2 := by
  have hq' : r.req.needsGrant = true := by rw [h.isReq]; exact hq
  rw [h.grantRequest_eq hq]
  simp only [State.finish, State.answered, hq', if_true]
  rw [← hr]

/-- Copy-before-write looks at the snapshot and the records alone. -/
theorem State.copyBeforeWrite_turn (i : Slot) (c : Claimant) :
    ((s.turn c).copyBeforeWrite i).snapshot = (s.copyBeforeWrite i).snapshot := by
  simp only [State.copyBeforeWrite_snapshot, State.account_turn]; rfl

/-- A change of one account does not depend on whose turn it is. -/
theorem State.Changed.of_turn {i : Slot} {c : Claimant} {b : AccountImage} {ks : KindSet}
    (h : (s.turn c).Changed t i b ks) : s.Changed { t with rotation := s.rotation } i b ks :=
  ⟨h.record, h.elsewhere, h.captured.trans (State.copyBeforeWrite_turn i c), h.counted⟩

/-- A parameter value read as a number below a bound. -/
theorem below_eq_some {n v : Nat} {x : Fin n} : below n v = some x ↔ v = x.val := by
  unfold below
  split
  · next h => simp [Fin.ext_iff]
  · next h => simp only [false_iff, reduceCtorEq]; have := x.isLt; omega

/-- A parameter value that is not below a bound. -/
theorem below_eq_none {n v : Nat} : below n v = none ↔ n ≤ v := by
  unfold below
  split
  · next h => simp only [reduceCtorEq, false_iff]; omega
  · next h => simp only [true_iff]; omega

end

/-- The requests that need a table grant are those that R186 lists. -/
theorem Req.needsGrant_iff (q : Req) : q.needsGrant = true ↔ q ∈ grantRequests := by
  cases q <;> decide

/-- A claimant claims by the table of R10. -/
theorem State.claims_iff (s : State) (c : Claimant) : s.claims c = true ↔ s.Claims c := by
  cases c with
  | line n =>
    simp only [State.claims, State.Claims, List.any_eq_true]
    refine exists_congr fun r => and_congr_right fun _ => ?_
    cases h : r.state <;> simp [RxSlot.isWaiting, h]
  | exec =>
    cases h : s.port.executing <;> simp [State.claims, State.Claims, h, Req.needsGrant_iff]
  | supv => simp [State.claims, State.Claims]
  | sweep => simp [State.claims, State.Claims]
  | capt => simp [State.claims, State.Claims, Option.isSome_iff_ne_none]

end Sys2Proof.Machine
end

