-- ==== Sys2Proof/Laws/Change.lean ====
section
/-! SUPPORT. A whole change of one account: what the low check and supply evaluation add to the
counts, and `State.changeAccount` in the words of `State.Changed`. -/

namespace Sys2Proof.Machine

section
variable (s : State) (i : Slot)

/-- Nothing is left of the empty set. -/
@[simp] theorem KindSet.zero_and (ks : KindSet) : (0#7 : KindSet) &&& ks = 0#7 := BitVec.zero_and

/-- What supply evaluation adds to the counts (R57, R133). -/
theorem State.evaluate_gained :
    s.notices.Gained (s.evaluate i).notices (s.account i).image.group
      (moveKind (s.account i).image.state
          (s.tariff.evaluated s.supv.gracePeriod (s.account i).image) &&&
        ~~~(s.account i).pending) := by
  have same : s.notices.Gained s.notices (s.account i).image.group
      ((0#7 : KindSet) &&& ~~~(s.account i).pending) := by
    rw [KindSet.zero_and]; exact Notices.Gained.refl _ _
  have set : ∀ (t : State) (k : NoticeKind), t.notices = s.notices →
      (t.account i).image.group = (s.account i).image.group →
      (t.account i).pending = (s.account i).pending →
      s.notices.Gained (t.setKind i k).notices (s.account i).image.group
        (k.bit &&& ~~~(s.account i).pending) := by
    intro t k hn hg hp
    have := t.setKind_gained i k
    rwa [hn, hg, hp] at this
  cases h : (s.account i).image.state <;> simp only [State.evaluate, TariffUnit.evaluated, h]
  case free | closing => exact same
  all_goals repeat' split
  all_goals first
    | exact same
    | exact set _ _ rfl (by simp) (by simp)

/-- What the low check adds to the counts (R54, R133). -/
theorem State.lowCheck_gained :
    s.notices.Gained (s.lowCheck i).notices (s.account i).image.group
      ((if s.tariff.belowLow (s.account i).image && (s.account i).image.lowArmed then
          NoticeKind.bit .low
        else 0) &&& ~~~(s.account i).pending) := by
  by_cases h : (s.tariff.effectiveLow (s.account i).image).toInt ≤
      (s.account i).image.balance.toInt
  · have hb : s.tariff.belowLow (s.account i).image = false := by
      simp [TariffUnit.belowLow]; omega
    have hs : (s.lowCheck i).notices = s.notices := by simp only [State.lowCheck, h, if_true]; rfl
    rw [hs, hb]
    simpa using Notices.Gained.refl s.notices _
  · have hb : s.tariff.belowLow (s.account i).image = true := by
      simp [TariffUnit.belowLow]; omega
    cases ha : (s.account i).image.lowArmed
    · have hs : (s.lowCheck i).notices = s.notices := by
        simp [State.lowCheck, h, ha]
      rw [hs, hb]
      simpa using Notices.Gained.refl s.notices _
    · have hs : s.lowCheck i =
          (s.updateImage i fun a => { a with lowArmed := false }).setKind i .low := by
        simp [State.lowCheck, h, ha]
      rw [hs, hb]
      have := (s.updateImage i fun a => { a with lowArmed := false }).setKind_gained i .low
      simpa using this

/-- A change of one account: where the work after the write leaves image `a` with the kinds `ks` set,
leaves SILENT, the other records and the snapshot, and gains those kinds, the account has `Changed`. -/
theorem State.changeAccount_changed {f : AccountImage → AccountImage} {after : State → State}
    {a : AccountImage} {ks : KindSet}
    (hown : ∀ t : State, t = (s.copyBeforeWrite i).updateImage i f → (after t).account i =
      { image := a
        silent := (s.account i).silent
        pending := (s.account i).pending ||| ks
        dirty := (s.account i).dirty })
    (hother : ∀ t : State, ∀ j, j ≠ i → (after t).account j = t.account j)
    (hsnap : ∀ t : State, (after t).snapshot = t.snapshot)
    (hcount : ∀ t : State, t = (s.copyBeforeWrite i).updateImage i f →
      t.notices.Gained (after t).notices a.group (ks &&& ~~~(s.account i).pending)) :
    s.Changed (s.changeAccount i f after) i a ks := by
  refine ⟨?_, ?_, ?_, ?_⟩
  · simp only [State.changeAccount, State.account_settleDirty, hown _ rfl, if_true]
  · intro j hj
    simp [State.changeAccount, State.account_settleDirty, hother _ j hj, hj]
  · simp only [State.changeAccount, State.settleDirty_snapshot, hsnap]
    rfl
  · have := hcount _ rfl
    simp only [State.changeAccount, State.settleDirty_notices]
    rw [← State.copyBeforeWrite_notices s i]
    exact this

/-- A change that is followed by one supply evaluation (R19, R21, R62). -/
theorem State.changeAccount_evaluate {f : AccountImage → AccountImage} {b : AccountImage}
    (hf : f (s.account i).image = b) :
    s.Changed (s.changeAccount i f fun t => t.evaluate i) i
      { b with state := s.tariff.evaluated s.supv.gracePeriod b }
      (moveKind b.state (s.tariff.evaluated s.supv.gracePeriod b)) := by
  apply State.changeAccount_changed
  · rintro t rfl
    simp only [State.account_evaluate, State.account_updateImage, if_true,
      State.account_copyBeforeWrite, hf]
    simp
  · intro t j hj; simp [State.account_evaluate, hj]
  · intro t; simp
  · rintro t rfl
    have := State.evaluate_gained ((s.copyBeforeWrite i).updateImage i f) i
    simp only [State.account_updateImage, if_true, State.account_copyBeforeWrite, hf] at this
    simpa using this

/-- What such a change leaves of the supervision unit (R58, R59, R124). -/
theorem State.changeAccount_evaluate_supv {f : AccountImage → AccountImage} {b : AccountImage}
    (hf : f (s.account i).image = b) :
    (s.changeAccount i f fun t => t.evaluate i).supv =
      s.supv.graceMoved i b.state (s.tariff.evaluated s.supv.gracePeriod b) := by
  simp only [State.changeAccount, State.settleDirty_supv, State.evaluate_supv,
    State.account_updateImage, if_true, State.account_copyBeforeWrite, hf]
  simp

/-- A LOW notice is none of those that a move of supply evaluation sets. -/
theorem low_and_moveKind (b : Bool) (old new : AccountState) :
    (if b then NoticeKind.bit .low else 0) &&& moveKind old new = 0 := by
  cases b <;> cases old <;> cases new <;> decide

/-- Kinds gained first, and those gained after them, do not meet. -/
theorem KindSet.split_disjoint (x y p : KindSet) : x &&& ~~~p &&& (y &&& ~~~(p ||| x)) = 0 := by
  apply BitVec.eq_of_getLsbD_eq
  intro n hn
  simp only [BitVec.getLsbD_and, BitVec.getLsbD_or, BitVec.getLsbD_not]
  cases BitVec.getLsbD x n <;> cases BitVec.getLsbD y n <;> cases BitVec.getLsbD p n <;> simp

/-- Kinds gained one set after the other are those of both sets that were not pending. -/
theorem KindSet.split_or {x y p : KindSet} (h : x &&& y = 0) :
    x &&& ~~~p ||| y &&& ~~~(p ||| x) = (x ||| y) &&& ~~~p := by
  apply BitVec.eq_of_getLsbD_eq
  intro n hn
  have hn' := congrArg (fun v => BitVec.getLsbD v n) h
  simp only [BitVec.getLsbD_and, BitVec.getLsbD_or, BitVec.getLsbD_not] at hn' ⊢
  revert hn'
  cases BitVec.getLsbD x n <;> cases BitVec.getLsbD y n <;> cases BitVec.getLsbD p n <;> simp

/-- A change that is followed by the low check and one supply evaluation (R52). -/
theorem State.changeAccount_check {f : AccountImage → AccountImage} {b : AccountImage}
    (hf : f (s.account i).image = b) :
    let checked : AccountImage := { b with lowArmed := !s.tariff.belowLow b }
    s.Changed (s.changeAccount i f fun t => (t.lowCheck i).evaluate i) i
      { checked with state := s.tariff.evaluated s.supv.gracePeriod checked }
      ((if s.tariff.belowLow b && b.lowArmed then NoticeKind.bit .low else 0) |||
        moveKind b.state (s.tariff.evaluated s.supv.gracePeriod checked)) := by
  intro checked
  apply State.changeAccount_changed
  · rintro t rfl
    simp only [State.account_evaluate, State.account_lowCheck, State.account_updateImage, if_true,
      State.account_copyBeforeWrite, hf]
    simp [checked, BitVec.or_assoc]
  · intro t j hj; simp [State.account_evaluate, State.account_lowCheck, hj]
  · intro t; simp
  · rintro t rfl
    have h1 := State.lowCheck_gained ((s.copyBeforeWrite i).updateImage i f) i
    have h2 := State.evaluate_gained (((s.copyBeforeWrite i).updateImage i f).lowCheck i) i
    simp only [State.account_lowCheck, State.account_updateImage, if_true,
      State.account_copyBeforeWrite, hf] at h1 h2
    simp only [State.lowCheck_tariff, State.lowCheck_supv, State.updateImage_tariff,
      State.updateImage_supv, State.copyBeforeWrite_tariff, State.copyBeforeWrite_supv] at h1 h2
    have hz := low_and_moveKind (s.tariff.belowLow b && b.lowArmed) b.state
      (s.tariff.evaluated s.supv.gracePeriod checked)
    have := h1.trans h2 (KindSet.split_disjoint _ _ _)
    rwa [KindSet.split_or hz] at this

/-- Two states that agree outside the table, the snapshot, the notices, the supervision unit and the
turn differ in those alone. -/
theorem State.eq_of_frame {s t : State} (occupancy : t.occupancy = s.occupancy)
    (highWater : t.highWater = s.highWater) (index : t.index = s.index)
    (tariff : t.tariff = s.tariff) (lines : t.lines = s.lines)
    (discovery : t.discovery = s.discovery) (store : t.store = s.store) (port : t.port = s.port)
    (resetHeld : t.resetHeld = s.resetHeld) (freeCount : t.freeCount = s.freeCount)
    (pending : t.pending = s.pending) :
    t = { s with
      table := t.table
      rotation := t.rotation
      supv := t.supv
      notices := t.notices
      snapshot := t.snapshot } := by
  cases t; cases s; simp_all

/-- Copy-before-write changes the snapshot alone (R12). -/
theorem State.copyBeforeWrite_eq :
    s.copyBeforeWrite i = { s with snapshot := (s.copyBeforeWrite i).snapshot } := by
  unfold State.copyBeforeWrite; split <;> rfl

/-- Freeing a slot, field by field (R23): the record is cleared, the identity leaves the index, the
account leaves both lists, its kinds leave the counts, the slot is captured, the occupancy falls. -/
theorem State.freeSlot_eq :
    s.freeSlot i = { s with
      table := (s.freeSlot i).table
      occupancy := s.occupancy - 1
      index := s.index.remove (s.account i).image.identity
      supv := (s.supv.leaveSilence i).leaveGrace i
      notices := s.notices.update (s.account i).image.group fun g =>
        g.dropKinds (s.account i).pending
      snapshot := (s.copyBeforeWrite i).snapshot } := by
  have hk : ∀ ks : KindSet, ks &&& 127#7 = ks := fun ks =>
    (BitVec.and_allOnes : ks &&& BitVec.allOnes 7 = ks)
  unfold State.freeSlot State.clearKinds State.setAccount State.updateSupv
  simp only [State.copyBeforeWrite_occupancy, State.copyBeforeWrite_index,
    State.copyBeforeWrite_supv, State.copyBeforeWrite_notices, State.copyBeforeWrite_highWater,
    State.copyBeforeWrite_rotation, State.copyBeforeWrite_tariff, State.copyBeforeWrite_lines,
    State.copyBeforeWrite_discovery, State.copyBeforeWrite_store, State.copyBeforeWrite_port,
    State.copyBeforeWrite_resetHeld, State.copyBeforeWrite_freeCount,
    State.copyBeforeWrite_pending]
  simp [State.account, hk]

/-- The records after a slot is freed (R3). -/
theorem State.account_freeSlot (j : Slot) :
    (s.freeSlot i).account j =
      if j = i then { Record.free with dirty := true } else s.account j := by
  have h : (s.freeSlot i).account j = ((({ s.copyBeforeWrite i with
      index := (s.copyBeforeWrite i).index.remove (s.account i).image.identity } : State).updateSupv
      fun v => (v.leaveSilence i).leaveGrace i).clearKinds i (BitVec.allOnes 7) |>.setAccount i
      { Record.free with dirty := true }).account j := rfl
  rw [h, State.account_setAccount]
  split
  · rfl
  · next hj =>
    rw [State.account_clearKinds, if_neg hj]
    show (s.copyBeforeWrite i).account j = _
    simp

end

end Sys2Proof.Machine
end

