-- ==== Sys2Proof/Laws/Lines.lean ====
section
/-! SUPPORT. Lines and receive slots: a line read back, the first slot that meets a test, saturating
sums, and the result that returns to a line. -/

namespace Sys2Proof.Machine

/-- Changing a line is putting the changed line in its place. -/
theorem State.updateLine_eq (s : State) (n : LineNo) (f : Line → Line) :
    s.updateLine n f = s.withLine n (f s.lines[n]) := rfl

/-- Putting a line back where it stood changes nothing. -/
@[simp] theorem State.withLine_same (s : State) (n : LineNo) : s.withLine n s.lines[n] = s := by
  simp [State.withLine]

/-- The line that was put in, read back. -/
@[simp] theorem State.lines_withLine (s : State) (n : LineNo) (l : Line) :
    (s.withLine n l).lines[n.val] = l := by simp [State.withLine]

/-- The other lines. -/
theorem State.lines_withLine_ne (s : State) {m n : LineNo} (l : Line) (h : m ≠ n) :
    (s.withLine n l).lines[m] = s.lines[m] := by
  have : (n : Nat) ≠ m := fun e => h (Fin.ext e.symm)
  simp [State.withLine, this]

/-- The character that arrives since a start bit, read off the receiver. -/
theorem Line.arriving_eq_some {l : Line} {start : Moment} {bytes : List Byte} :
    l.arriving start = some bytes ↔ l.receiver = .assembling bytes (.character start) := by
  unfold Line.arriving
  split
  · next h => simp [h, and_comm]
  all_goals next h => simp [h]

/-- A moment at which no character of the line began. -/
theorem Line.arriving_eq_none {l : Line} {start : Moment} :
    l.arriving start = none ↔ ∀ bytes, l.receiver ≠ .assembling bytes (.character start) := by
  simp [Option.eq_none_iff_forall_ne_some, Line.arriving_eq_some]

/-- A start bit begins a frame or the next character of one, abandons a frame whose gap has passed, or
changes nothing. -/
theorem Line.startBit_cases (l : Line) (start : Moment) (highFor : Nat) :
    l.startBit start highFor = l.abandonStale start ∨
    (l.abandonStale start).receiver = .listening ∧ l.startBit start highFor =
      { l.abandonStale start with receiver := .assembling [] (.character start), awaitHigh := false } ∨
    ∃ bytes ended, (l.abandonStale start).receiver = .assembling bytes (.gap ended) ∧
      l.startBit start highFor =
        { l.abandonStale start with receiver := .assembling bytes (.character start) } := by
  unfold Line.startBit
  dsimp only
  split
  · next h =>
    split
    · exact .inr (.inl ⟨h, rfl⟩)
    · exact .inl rfl
  · next bytes ended h => exact .inr (.inr ⟨bytes, ended, h, rfl⟩)
  all_goals exact .inl rfl

/-- A sum of one saturates as a rise by one. -/
theorem satAdd16_one (v : Half) : satAdd16 v 1 = satInc16 v := by
  unfold satAdd16 satInc16
  split
  · next h => subst h; decide
  · next h =>
    apply BitVec.eq_of_toNat_eq
    have := v.isLt
    have hne : v.toNat ≠ 2 ^ 16 - 1 := fun h' => h (BitVec.eq_of_toNat_eq (by simpa using h'))
    rw [BitVec.toNat_add]
    simp
    omega

/-- A sum of nothing. -/
@[simp] theorem satAdd16_zero (v : Half) : satAdd16 v 0 = v := by
  apply BitVec.eq_of_toNat_eq
  have := v.isLt
  simp [satAdd16]
  omega

/-- The first slot that meets a test is replaced where it stands. -/
theorem updateFirst_some {p : RxSlot → Bool} {f : RxSlot → RxSlot} {pre post : List RxSlot}
    {r : RxSlot} (hpre : ∀ q ∈ pre, p q = false) (hr : p r = true) :
    updateFirst p (fun x => some (f x)) (pre ++ r :: post) = pre ++ f r :: post := by
  induction pre with
  | nil => simp [updateFirst, hr]
  | cons q qs ih =>
    simp [updateFirst, hpre q (by simp)]
    exact ih fun x hx => hpre x (by simp [hx])

/-- The first slot that meets a test is emptied. -/
theorem updateFirst_none {p : RxSlot → Bool} {f : RxSlot → Option RxSlot} {pre post : List RxSlot}
    {r : RxSlot} (hpre : ∀ q ∈ pre, p q = false) (hr : p r = true) (hf : f r = none) :
    updateFirst p f (pre ++ r :: post) = pre ++ post := by
  induction pre with
  | nil => simp [updateFirst, hr, hf]
  | cons q qs ih =>
    simp [updateFirst, hpre q (by simp)]
    exact ih fun x hx => hpre x (by simp [hx])

/-- The first slot that meets a test is found. -/
theorem find_first {p : RxSlot → Bool} {pre post : List RxSlot} {r : RxSlot}
    (hpre : ∀ q ∈ pre, p q = false) (hr : p r = true) :
    (pre ++ r :: post).find? p = some r := by
  rw [List.find?_append, List.find?_eq_none.mpr (by simpa using hpre)]
  simp [hr]

/-- What a returning result leaves of a line whose report `r` was IN_TABLE between the slots `pre`
and `post`: the table of R76, a DISABLED line sending no reply (R82). -/
def Line.afterResult (l : Line) (pre : List RxSlot) (r : RxSlot) (post : List RxSlot)
    (result : Option ReplyContent) : Line :=
  if r.discard = true ∨ l.mode = .disabled then { l with slots := pre ++ post }
  else
    match result with
    | none => { l with slots := pre ++ post }
    | some c =>
      if l.mode = .monitor then { l with slots := pre ++ post }
      else if r.late then
        { l with
          slots := pre ++ post
          counters := { l.counters with lateReplies := satInc16 l.counters.lateReplies } }
      else
        { l with
          slots := pre ++
            { r with
              state := .ready c
                (if (pre ++ post).any RxSlot.isReady then .second else .first) } :: post }

/-- The result that stands with an IN_TABLE slot returns to its line as R76 says. -/
theorem Line.takeResult_eq (l : Line) {pre post : List RxSlot} {r : RxSlot}
    {result : Option ReplyContent} (hs : l.slots = pre ++ r :: post)
    (hr : r.state = .inTable result) (hpre : ∀ q ∈ pre, q.isInTable = false) :
    l.takeResult = l.afterResult pre r post result := by
  have hrt : r.isInTable = true := by simp [RxSlot.isInTable, hr]
  have hready : (pre ++ r :: post).any RxSlot.isReady = (pre ++ post).any RxSlot.isReady := by
    simp [RxSlot.isReady, hr]
  have hdrop : updateFirst RxSlot.isInTable (fun _ => none) (pre ++ r :: post) = pre ++ post :=
    updateFirst_none hpre hrt rfl
  have hres : r.result = result := by simp [RxSlot.result, hr]
  unfold Line.takeResult Line.afterResult
  rw [hs, find_first hpre hrt]
  simp only [hdrop, hres]
  split
  · rfl
  · cases result with
    | none => rfl
    | some c =>
      simp only []
      split
      · rfl
      · split
        · rfl
        · rw [updateFirst_some hpre hrt, lastOrder, hready]

/-- A line without a slot IN_TABLE takes no result. -/
theorem Line.takeResult_none (l : Line) (h : ∀ q ∈ l.slots, q.isInTable = false) :
    l.takeResult = l := by
  unfold Line.takeResult
  rw [List.find?_eq_none.mpr (by simpa using h)]

/-- A granted report: its work is done with the turn passed on, and its slot stands IN_TABLE with the
result (R75, R93). -/
theorem State.GrantsReport.exec_eq {s : State} {n : LineNo} {pre post : List RxSlot} {r : RxSlot}
    (h : s.GrantsReport n pre r post) {done : State × Option ReplyContent}
    (hd : (s.turn (.line n)).handleReport n r.identity r.sequence r.usage = done)
    (hs : done.1.lines[n].slots = s.lines[n].slots) :
    exec (.reportGrant (.work n)) s = .next (done.1.withLine n
      { done.1.lines[n] with
        slots := pre ++ { r with state := .inTable done.2 } :: post }) := by
  obtain ⟨hg, hl, hr, hpre⟩ := h
  have hw : r.isWaiting = true := by simp [RxSlot.isWaiting, hr]
  have hprew : ∀ q ∈ pre, q.isWaiting = false := by
    intro q hq; simpa [RxSlot.isWaiting] using hpre q hq
  have hup : updateFirst RxSlot.isWaiting (fun x => some (x.grant done.2)) (pre ++ r :: post) =
      pre ++ r.grant done.2 :: post := updateFirst_some hprew hw
  simp only [exec, execReportGrant, hg, if_true, State.grantReport]
  rw [hl, find_first hprew hw]
  simp only [hd]
  rw [State.updateLine_eq, hs, hl, hup]
  rfl

/-- While the table is free, no slot of any line is IN_TABLE. -/
theorem State.tableBusy_eq_false (s : State) :
    s.tableBusy = false ↔ ∀ n : LineNo, ∀ r ∈ s.lines[n].slots, r.isInTable = false := by
  simp only [State.tableBusy, Vector.any_eq_false]
  constructor
  · intro h n r hr
    have := h n.val n.isLt
    simp only [List.any_eq_true, not_exists, not_and, Bool.not_eq_true] at this
    exact this r hr
  · intro h n hn
    simp only [List.any_eq_true, not_exists, not_and, Bool.not_eq_true]
    exact fun r hr => h ⟨n, hn⟩ r hr

/-- A claimant is granted only while the table is free (R11). -/
theorem State.granted_free {s : State} {c : Claimant} (h : s.granted = some c) :
    s.port.opened = true ∧ s.tableBusy = false ∧ s.claims c = true := by
  unfold State.granted at h
  split at h
  · next ho =>
    rw [Bool.and_eq_true, Bool.not_eq_true'] at ho
    exact ⟨ho.1, ho.2, List.find?_some h⟩
  · cases h

end Sys2Proof.Machine
end

