-- ==== Sys2Proof/Laws/PerInstr.lean ====
section
/-! SUPPORT. The family WellFormedness, one lemma per command: every command is well formed but an
UNKNOWN_TRANSACTION whose first byte names a transaction (R179). -/

namespace Sys2Proof.Laws.WellFormedness

/-- A command is well formed, or is an UNKNOWN_TRANSACTION of a byte that names a transaction. -/
def Statement (i : Instr) : Prop :=
  i.wellFormed = true ∨
    ∃ first piece, i = .unknownTransaction first piece ∧
      SpiKind.ofFirst first ≠ .unknown

theorem pinReset (event : ResetEvent) (startMode : StartMode) :
    Statement (.pinReset event startMode) := Or.inl rfl

theorem startUp : Statement .startUp := Or.inl rfl

theorem secondEdge : Statement .secondEdge := Or.inl rfl

theorem silenceExpiry : Statement .silenceExpiry := Or.inl rfl

theorem graceExpiry : Statement .graceExpiry := Or.inl rfl

theorem frameCharacterReceived (line : LineNo) (byte : Byte) (start : Moment)
    (part : CharacterPart) : Statement (.frameCharacterReceived line byte start part) := Or.inl rfl

theorem framingError (line : LineNo) (start : Moment) (part : CharacterPart) :
    Statement (.framingError line start part) := Or.inl rfl

theorem frameGapTimeout (line : LineNo) (now : Moment) :
    Statement (.frameGapTimeout line now) := Or.inl rfl

theorem reportFrame (line : LineNo) (byte : Byte) (start : Moment) :
    Statement (.reportFrame line byte start) := Or.inl rfl

theorem contentionCharacter (line : LineNo) (highFor : Nat) :
    Statement (.contentionCharacter line highFor) := Or.inl rfl

theorem replyDeadline (line : LineNo) (place : SlotPlace) (now : Moment) :
    Statement (.replyDeadline line place now) := Or.inl rfl

theorem replyStart (line : LineNo) (now : Moment) : Statement (.replyStart line now) := Or.inl rfl

theorem replySent (line : LineNo) (now : Moment) : Statement (.replySent line now) := Or.inl rfl

theorem reportGrant (grant : LineGrant) : Statement (.reportGrant grant) := Or.inl rfl

theorem sweepStep : Statement .sweepStep := Or.inl rfl

theorem settingsPageCapture : Statement .settingsPageCapture := Or.inl rfl

theorem accountPageCapture : Statement .accountPageCapture := Or.inl rfl

theorem pageEraseDone : Statement .pageEraseDone := Or.inl rfl

theorem pageProgramDone : Statement .pageProgramDone := Or.inl rfl

theorem pageVerifyDone (readBack : ReadBack) : Statement (.pageVerifyDone readBack) := Or.inl rfl

theorem wipePageEraseDone : Statement .wipePageEraseDone := Or.inl rfl

theorem requestWrite (piece : SpiPiece) : Statement (.requestWrite piece) := Or.inl rfl

theorem responseRead (piece : SpiPiece) : Statement (.responseRead piece) := Or.inl rfl

theorem statusRead (piece : SpiPiece) : Statement (.statusRead piece) := Or.inl rfl

theorem portFlush (piece : SpiPiece) : Statement (.portFlush piece) := Or.inl rfl

theorem unknownTransaction (first : Byte) (piece : SpiPiece) :
    Statement (.unknownTransaction first piece) := by
  by_cases h : SpiKind.ofFirst first = .unknown
  · exact Or.inl (by simp [Instr.wellFormed, h])
  · exact Or.inr ⟨first, piece, rfl, h⟩

theorem executorTake : Statement .executorTake := Or.inl rfl

theorem overflowFaultResponse : Statement .overflowFaultResponse := Or.inl rfl

theorem enrol : Statement .enrol := Or.inl rfl

theorem accountRead : Statement .accountRead := Or.inl rfl

theorem find : Statement .find := Or.inl rfl

theorem setClass : Statement .setClass := Or.inl rfl

theorem setGroup : Statement .setGroup := Or.inl rfl

theorem setLow : Statement .setLow := Or.inl rfl

theorem retire : Statement .retire := Or.inl rfl

theorem purge : Statement .purge := Or.inl rfl

theorem tableStatus : Statement .tableStatus := Or.inl rfl

theorem highwaterReset : Statement .highwaterReset := Or.inl rfl

theorem adjust : Statement .adjust := Or.inl rfl

theorem suspend : Statement .suspend := Or.inl rfl

theorem unsuspend : Statement .unsuspend := Or.inl rfl

theorem tariffStage : Statement .tariffStage := Or.inl rfl

theorem tariffRead : Statement .tariffRead := Or.inl rfl

theorem tariffCommit : Statement .tariffCommit := Or.inl rfl

theorem tariffDiscard : Statement .tariffDiscard := Or.inl rfl

theorem setBand : Statement .setBand := Or.inl rfl

theorem lineConfig : Statement .lineConfig := Or.inl rfl

theorem lineMode : Statement .lineMode := Or.inl rfl

theorem lineStatus : Statement .lineStatus := Or.inl rfl

theorem lineClear : Statement .lineClear := Or.inl rfl

theorem setUnknownPolicy : Statement .setUnknownPolicy := Or.inl rfl

theorem discoveryTake : Statement .discoveryTake := Or.inl rfl

theorem discoveryClear : Statement .discoveryClear := Or.inl rfl

theorem setSilence : Statement .setSilence := Or.inl rfl

theorem setGrace : Statement .setGrace := Or.inl rfl

theorem setTime : Statement .setTime := Or.inl rfl

theorem readTime : Statement .readTime := Or.inl rfl

theorem groupConfig : Statement .groupConfig := Or.inl rfl

theorem noticeFetch : Statement .noticeFetch := Or.inl rfl

theorem noticeAck : Statement .noticeAck := Or.inl rfl

theorem noticeClear : Statement .noticeClear := Or.inl rfl

theorem noticeEnable : Statement .noticeEnable := Or.inl rfl

theorem groupStatus : Statement .groupStatus := Or.inl rfl

theorem snapshotTake : Statement .snapshotTake := Or.inl rfl

theorem snapshotRead : Statement .snapshotRead := Or.inl rfl

theorem snapshotTotals : Statement .snapshotTotals := Or.inl rfl

theorem snapshotRelease : Statement .snapshotRelease := Or.inl rfl

theorem checkpoint : Statement .checkpoint := Or.inl rfl

theorem checkpointAbort : Statement .checkpointAbort := Or.inl rfl

theorem storeStatus : Statement .storeStatus := Or.inl rfl

theorem storeWipe : Statement .storeWipe := Or.inl rfl

theorem partIdent : Statement .partIdent := Or.inl rfl

theorem partReset : Statement .partReset := Or.inl rfl

end Sys2Proof.Laws.WellFormedness
end

