-- ==== Sys2Proof/Laws/Port.lean ====
section
/-! SUPPORT. SPI transactions: what the byte times of each kind leave of the port, and a piece of a
transaction in the words of `State.spiOf`. -/

namespace Sys2Proof.Machine

variable {p : Port} {x : Spi}

/-! ### Byte times -/

/-- Byte times without a transaction under way change nothing. -/
theorem Port.foldl_byteTime_none (h : p.spi = none) (received : List Byte) :
    received.foldl Port.byteTime p = p := by
  induction received with
  | nil => rfl
  | cons b bs ih => rw [List.foldl_cons, show p.byteTime b = p by simp [Port.byteTime, h], ih]

/-- Byte times that the port ignores give 00h and change nothing else (R179). -/
theorem Port.foldl_byteTime_ignored (h : p.spi = some x)
    (hk : x.kind = .unknown ∨ x.kind = .portFlush) (received : List Byte) :
    received.foldl Port.byteTime p =
      { p with miso := p.miso ++ List.replicate received.length 0x00 } := by
  induction received generalizing p with
  | nil => simp
  | cons b bs ih =>
    have hb : p.byteTime b = { p with miso := p.miso ++ [0x00] } := by
      rcases hk with hk | hk <;>
        simp [Port.byteTime, h, Port.firstBit, Port.eighthBit, Port.nextMiso, hk]
    rw [List.foldl_cons, hb]
    refine (ih ?_).trans ?_
    · exact h
    · simp [List.replicate_succ]

/-- Byte times of RESPONSE_READ take the front of the response queue, and 00h with the underrun flag
where it is empty (R181). -/
theorem Port.foldl_byteTime_responseRead (h : p.spi = some x) (hk : x.kind = .responseRead)
    (received : List Byte) :
    received.foldl Port.byteTime p =
      { p with
        responses := p.responses.drop received.length
        underrun := p.underrun || decide (p.responses.length < received.length)
        miso := p.miso ++
          (p.responses ++ List.replicate received.length 0x00).take received.length } := by
  induction received generalizing p with
  | nil => simp
  | cons b bs ih =>
    have hb : p.byteTime b =
        { p with
          responses := p.responses.tail
          underrun := p.underrun || p.responses.isEmpty
          miso := p.miso ++ [p.responses.headD 0x00] } := by
      simp [Port.byteTime, h, Port.firstBit, Port.eighthBit, Port.nextMiso, hk]
    rw [List.foldl_cons, hb]
    refine (ih (by exact h)).trans ?_
    cases hr : p.responses with
    | nil => simp [List.replicate_succ]
    | cons r rs =>
      simp only [List.tail_cons, List.isEmpty_cons, Bool.or_false, List.length_cons, List.drop_succ_cons,
        List.headD_cons, List.append_assoc, Nat.add_lt_add_iff_right, List.cons_append,
        List.take_succ_cons, List.nil_append, List.replicate_succ']
      rw [← List.append_assoc rs, List.take_append_of_le_length (l₁ := rs ++ List.replicate bs.length 0)
        (by simp)]
      rfl

/-- Byte times of STATUS_READ give the status bytes that are left, then 00h; the end of the last of them
clears the underrun flag (R182). -/
theorem Port.foldl_byteTime_statusRead (h : p.spi = some x) (hk : x.kind = .statusRead)
    (received : List Byte) :
    received.foldl Port.byteTime p =
      { p with
        spi := some { x with status := x.status.drop received.length }
        underrun := p.underrun &&
          !decide (1 ≤ x.status.length ∧ x.status.length ≤ received.length)
        miso := p.miso ++
          (x.status ++ List.replicate received.length 0x00).take received.length } := by
  induction received generalizing p x with
  | nil =>
    have hn : (!decide (1 ≤ x.status.length ∧ x.status.length ≤ 0)) = true := by
      simp only [Bool.not_eq_true', decide_eq_false_iff_not]; omega
    simp only [List.length_nil, hn, Bool.and_true, List.drop_zero, ← h]
    simp
  | cons b bs ih =>
    have hb : p.byteTime b =
        { p with
          spi := some { x with status := x.status.tail }
          underrun := p.underrun && x.status.length != 1
          miso := p.miso ++ [x.status.headD 0x00] } := by
      simp [Port.byteTime, h, Port.firstBit, Port.eighthBit, Port.nextMiso, hk]
    rw [List.foldl_cons, hb]
    refine (ih (x := { x with status := x.status.tail }) rfl hk).trans ?_
    cases hr : x.status with
    | nil => simp [List.replicate_succ]
    | cons r rs =>
      simp only [List.tail_cons, List.length_cons, List.drop_succ_cons, List.headD_cons,
        List.append_assoc, List.cons_append, List.take_succ_cons, List.nil_append,
        List.replicate_succ']
      rw [← List.append_assoc rs, List.take_append_of_le_length (l₁ := rs ++ List.replicate bs.length 0)
        (by simp)]
      congr 1
      cases p.underrun <;> cases rs <;> simp

/-- Writing a byte keeps the transaction under way and what MISO carried. -/
theorem Port.writeByte_spi (p : Port) (b : Byte) :
    (p.writeByte b).spi = p.spi ∧ (p.writeByte b).miso = p.miso := by
  unfold Port.writeByte Port.overflow
  split
  · exact ⟨rfl, rfl⟩
  · split <;> exact ⟨rfl, rfl⟩

/-- What MISO carried has no part in writing a byte. -/
theorem Port.writeByte_miso (p : Port) (b : Byte) (m : List Byte) :
    ({ p with miso := m } : Port).writeByte b = { p.writeByte b with miso := m } := by
  unfold Port.writeByte
  have : ({ p with miso := m } : Port).discards = p.discards := rfl
  rw [this]
  split
  · rfl
  · split <;> rfl

/-- Byte times of REQUEST_WRITE append what is received, and give 00h (R180). -/
theorem Port.foldl_byteTime_requestWrite (h : p.spi = some x) (hk : x.kind = .requestWrite)
    (received : List Byte) :
    received.foldl Port.byteTime p =
      { received.foldl Port.writeByte p with
        miso := p.miso ++ List.replicate received.length 0x00 } := by
  induction received generalizing p with
  | nil => simp
  | cons b bs ih =>
    have hb : p.byteTime b = { p.writeByte b with miso := p.miso ++ [0x00] } := by
      simp [Port.byteTime, h, Port.firstBit, Port.eighthBit, Port.nextMiso, hk,
        (p.writeByte_spi b).2]
    have hm : ∀ q : Port, ∀ m, bs.foldl Port.writeByte { q with miso := m } =
        { bs.foldl Port.writeByte q with miso := m } := by
      intro q m
      clear ih hb
      induction bs generalizing q with
      | nil => rfl
      | cons c cs ih => rw [List.foldl_cons, Port.writeByte_miso, ih, List.foldl_cons]
    rw [List.foldl_cons, hb]
    refine (ih ?_).trans ?_
    · exact (p.writeByte_spi b).1.trans h
    · rw [hm]
      simp [List.replicate_succ]

/-- A port that discards keeps its queue (R178, R180). -/
theorem Port.foldl_writeByte_discards (h : p.discards = true) (received : List Byte) :
    received.foldl Port.writeByte p = p := by
  induction received with
  | nil => rfl
  | cons b bs ih => rw [List.foldl_cons, show p.writeByte b = p by simp [Port.writeByte, h], ih]

/-- Bytes that find room join the request queue (R180). -/
theorem Port.foldl_writeByte_fits (h : p.discards = false) (received : List Byte)
    (hroom : p.requests.length + received.length ≤ Config.requestRoom) :
    received.foldl Port.writeByte p = { p with requests := p.requests ++ received } := by
  induction received generalizing p with
  | nil => simp
  | cons b bs ih =>
    simp only [List.length_cons] at hroom
    have hb : p.writeByte b = { p with requests := p.requests ++ [b] } := by
      simp [Port.writeByte, h]; omega
    rw [List.foldl_cons, hb]
    refine (ih ?_ ?_).trans ?_
    · exact h
    · simp; omega
    · simp

/-- The first byte that finds the request queue full is dropped with those after it, and faults the
port (R180). -/
theorem Port.foldl_writeByte_overflow (h : p.discards = false) (received : List Byte)
    (hfit : p.requests.length ≤ Config.requestRoom)
    (hover : Config.requestRoom < p.requests.length + received.length) :
    received.foldl Port.writeByte p =
      { p with
        requests := p.requests ++ received.take (Config.requestRoom - p.requests.length) }.overflow := by
  have hcut := List.take_append_drop (Config.requestRoom - p.requests.length) received
  have hrest : received.drop (Config.requestRoom - p.requests.length) ≠ [] := by
    simp; omega
  rw [← hcut, List.foldl_append, Port.foldl_writeByte_fits h _ (by simp; omega), hcut]
  cases hd : received.drop (Config.requestRoom - p.requests.length) with
  | nil => exact absurd hd hrest
  | cons b bs =>
    have hfull : ¬(p.requests.length +
        min (Config.requestRoom - p.requests.length) received.length < Config.requestRoom) := by
      omega
    have hb : ({ p with
        requests := p.requests ++
          received.take (Config.requestRoom - p.requests.length) } : Port).writeByte b =
        { p with
          requests := p.requests ++
            received.take (Config.requestRoom - p.requests.length) }.overflow := by
      have hd : ({ p with
        requests := p.requests ++
          received.take (Config.requestRoom - p.requests.length) } : Port).discards = false := h
      simp only [Port.writeByte, hd, List.length_append, List.length_take, hfull, if_false,
        Bool.false_eq_true]
    rw [List.foldl_cons, hb]
    apply Port.foldl_writeByte_discards
    unfold Port.discards at h ⊢
    unfold Port.overflow
    cases hs : p.state <;> simp_all

/-! ### Pieces -/

/-- The end of a transaction ignored, or of one that writes, flushes or reads the status, sends the bits
of its next byte and leaves the rest of the port (R179). -/
theorem Port.endTransaction_eq (h : p.spi = some x) (hk : x.kind ≠ .responseRead) (n : Fin 8) :
    p.endTransaction n =
      { p with spi := none, misoBits := leadingBits (p.nextMiso x) n.val } := by
  have : p.firstBit x = p := by
    unfold Port.firstBit
    split
    · next hk' => exact absurd hk' hk
    · rfl
    · rfl
    · rfl
    · rfl
  simp only [Port.endTransaction, h, this, ite_self]

/-- The leading bits of a byte by their numbers. -/
theorem leadingBits_eq (b : Byte) (n : Fin 8) :
    leadingBits b n.val = (List.range n.val).map fun i => b.getLsbD (7 - i) := by
  apply List.map_congr_left
  intro i hi
  have : i < 8 := by
    have := n.isLt
    simp at hi
    omega
  simp [BitVec.getMsbD, this]

/-- A piece of a transaction that takes nothing from the response queue: its byte times, then the rise of
CS_N where it holds one. -/
theorem Port.shift_eq {q : Port} {received : List Byte} (hf : received.foldl Port.byteTime p = q)
    (hs : q.spi = some x) (hk : x.kind ≠ .responseRead) (ends : Option (Fin 8)) :
    p.shift received ends =
      { q with
        spi := if ends = none then some x else none
        misoBits :=
          match ends with
          | none => q.misoBits
          | some n => (List.range n.val).map fun i => (q.nextMiso x).getLsbD (7 - i) } := by
  unfold Port.shift
  rw [hf]
  cases ends with
  | none => simp [← hs]
  | some n => simp [Port.endTransaction_eq hs hk, leadingBits_eq]

/-- A piece that no transaction takes changes nothing. -/
theorem State.spiPiece_none {s : State} {first : Byte} {piece : SpiPiece}
    (h : s.spiOf first piece = none) : s.spiPiece first piece = s := by
  unfold State.spiOf at h
  unfold State.spiPiece
  split
  · rfl
  · next hr =>
    simp only [hr, if_false, Bool.false_eq_true] at h
    cases hs : s.port.spi <;> cases ho : piece.opens <;> simp_all

/-- A piece of a transaction is its byte times, and its end, on the port as the transaction finds it: as
the opening left it, or as it stands. -/
theorem State.spiPiece_some {s : State} {first : Byte} {piece : SpiPiece} {x : Spi}
    (h : s.spiOf first piece = some x) :
    x.first = first ∧
    ∃ q : Port,
      q = { (if piece.opens ∧ SpiKind.ofFirst first = .portFlush then s.port.flush else s.port) with
            spi := some x
            miso := if piece.opens then [0x00] else s.port.miso
            misoBits := if piece.opens then [] else s.port.misoBits } ∧
      s.spiPiece first piece = { s with port := q.shift piece.received piece.ends } := by
  unfold State.spiOf at h
  split at h
  · cases h
  · next hr =>
    unfold State.spiPiece State.beginTransaction
    cases hs : s.port.spi with
    | none =>
      cases ho : piece.opens
      · simp [hs, ho] at h
      · simp only [hs, ho, if_true, Option.some.injEq] at h
        subst h
        refine ⟨rfl, _, rfl, ?_⟩
        simp only [hr, if_false, Bool.false_eq_true]
        by_cases hf : SpiKind.ofFirst first = .portFlush <;> simp [hf, Port.flush]
    | some y =>
      cases ho : piece.opens
      · simp only [hs, ho, true_and, Option.ite_none_right_eq_some, Option.some.injEq] at h
        obtain ⟨h1, rfl⟩ := h
        refine ⟨h1, _, rfl, ?_⟩
        simp [hr, h1, State.updatePort, ← hs]
      · simp [hs, ho] at h

end Sys2Proof.Machine
end

