-- ==== Sys2Proof/Laws/Rotation.lean ====
section
/-! SUPPORT. The rotation position of the arbiter (R11): a grant turns it, and the work of a grant or of
a request leaves it. -/

namespace Sys2Proof.Machine

/-! ### Shared operations -/

/-- A request on an account leaves the rotation position if its work does. -/
theorem State.onAccount_rotation {s : State} {slot : Option Slot} {work : Slot → State × Answer}
    (h : ∀ i, (work i).1.rotation = s.rotation) : (s.onAccount slot work).1.rotation = s.rotation := by
  unfold State.onAccount
  split
  · rfl
  · split
    · rfl
    · exact h _

/-- A change of one account leaves it if what follows does. -/
theorem State.changeAccount_rotation (s : State) (i : Slot) (f : AccountImage → AccountImage)
    {after : State → State} (h : ∀ t, (after t).rotation = t.rotation) :
    (s.changeAccount i f after).rotation = s.rotation := by
  simp [State.changeAccount, h]

/-- A request that needs a grant turns the rotation position past EXEC, or nothing happens. -/
theorem State.grantRequest_rotation (s : State) (q : Req) {work : List Byte → State → State × Answer}
    (h : ∀ ps t, (work ps t).1.rotation = t.rotation) :
    s.grantRequest q work = s ∨
      s.granted = some .exec ∧ (s.grantRequest q work).rotation = Claimant.after .exec := by
  rcases s.grantRequest_cases q work with e | ⟨r, _, _, _, hg, e⟩
  · exact .inl e
  · refine .inr ⟨hg, ?_⟩
    rw [e, State.finish_rotation, h, State.turn_rotation]

/-- A request in execution that needs a grant, and has it, turns the rotation position past EXEC. -/
theorem State.grantRequest_turns {s : State} {q : Req} {work : List Byte → State → State × Answer}
    {r : Request} (h : ∀ ps t, (work ps t).1.rotation = t.rotation)
    (hx : s.inExecution q = some r) (hg : s.granted = some .exec) :
    (s.grantRequest q work).rotation = Claimant.after .exec := by
  simp only [State.grantRequest, hx, hg, if_pos]
  rw [State.finish_rotation, h, State.turn_rotation]

/-- A request that needs no grant leaves it. -/
theorem State.directRequest_rotation (s : State) (q : Req)
    {work : List Byte → State → State × Answer} (h : ∀ ps t, (work ps t).1.rotation = t.rotation) :
    (s.directRequest q work).rotation = s.rotation := by
  rcases s.directRequest_cases q work with e | ⟨r, _, _, _, e⟩
  · rw [e]
  · rw [e, State.finish_rotation, h]

/-! ### The work of the requests -/

theorem State.enrolAccount_rotation (s : State) (i : Slot) (ix : Index) (a : AccountImage) :
    (s.enrolAccount i ix a).rotation = s.rotation := by
  unfold State.enrolAccount
  simp only [State.settleDirty_rotation, State.updateSupv_rotation, State.evaluate_rotation,
    State.setAccount_rotation, State.copyBeforeWrite_rotation]

theorem enrolWork_rotation (ps : List Byte) (s : State) :
    (enrolWork ps s).1.rotation = s.rotation := by
  unfold enrolWork
  (repeat' split) <;> first
    | exact State.enrolAccount_rotation ..
    | rfl

theorem accountReadWork_rotation (ps : List Byte) (s : State) :
    (accountReadWork ps s).1.rotation = s.rotation :=
  State.onAccount_rotation fun _ => rfl

theorem findWork_rotation (ps : List Byte) (s : State) :
    (findWork ps s).1.rotation = s.rotation := by
  unfold findWork
  (repeat' split) <;> rfl

theorem tableStatusWork_rotation (ps : List Byte) (s : State) :
    (tableStatusWork ps s).1.rotation = s.rotation :=
  rfl

theorem highwaterResetWork_rotation (ps : List Byte) (s : State) :
    (highwaterResetWork ps s).1.rotation = s.rotation :=
  rfl

theorem setClassWork_rotation (ps : List Byte) (s : State) :
    (setClassWork ps s).1.rotation = s.rotation := by
  unfold setClassWork
  split
  · rfl
  · refine State.onAccount_rotation fun i => ?_
    split
    · rfl
    · exact State.changeAccount_rotation _ _ _ fun t => t.evaluate_rotation i

theorem setGroupWork_rotation (ps : List Byte) (s : State) :
    (setGroupWork ps s).1.rotation = s.rotation := by
  unfold setGroupWork
  split
  · rfl
  · refine State.onAccount_rotation fun i => ?_
    split
    · rfl
    · exact State.changeAccount_rotation _ _ _ fun t => rfl

theorem setLowWork_rotation (ps : List Byte) (s : State) :
    (setLowWork ps s).1.rotation = s.rotation := by
  unfold setLowWork
  split
  · rfl
  · exact State.onAccount_rotation fun i =>
      State.changeAccount_rotation _ _ _ fun t => t.evaluate_rotation i

theorem retireWork_rotation (ps : List Byte) (s : State) :
    (retireWork ps s).1.rotation = s.rotation := by
  unfold retireWork
  refine State.onAccount_rotation fun i => ?_
  split
  · rfl
  · exact State.changeAccount_rotation _ _ _ fun t => State.setKind_rotation ..

theorem purgeWork_rotation (ps : List Byte) (s : State) :
    (purgeWork ps s).1.rotation = s.rotation :=
  State.onAccount_rotation fun i => by simp

theorem State.adjustAccount_rotation (s : State) (i : Slot) (sum : Int) :
    (s.adjustAccount i sum).rotation = s.rotation := by
  simp [State.adjustAccount, State.changeAccount_rotation]

theorem adjustWork_rotation (ps : List Byte) (s : State) :
    (adjustWork ps s).1.rotation = s.rotation := by
  unfold adjustWork
  (repeat' split) <;> simp [State.refuse, State.onAccount]
  (repeat' split) <;> simp [State.adjustAccount_rotation]

theorem suspendWork_rotation (ps : List Byte) (s : State) :
    (suspendWork ps s).1.rotation = s.rotation := by
  refine State.onAccount_rotation fun i => ?_
  dsimp only
  split
  · rfl
  · split
    · rfl
    · exact State.changeAccount_rotation _ _ _ fun _ => rfl

theorem unsuspendWork_rotation (ps : List Byte) (s : State) :
    (unsuspendWork ps s).1.rotation = s.rotation := by
  refine State.onAccount_rotation fun i => ?_
  dsimp only
  split
  · rfl
  · exact State.changeAccount_rotation _ _ _ fun t => t.evaluate_rotation i

theorem tariffStageWork_rotation (ps : List Byte) (s : State) :
    (tariffStageWork ps s).1.rotation = s.rotation := by
  unfold tariffStageWork
  split <;> rfl

theorem tariffReadWork_rotation (ps : List Byte) (s : State) :
    (tariffReadWork ps s).1.rotation = s.rotation := by
  unfold tariffReadWork
  split <;> rfl

theorem tariffCommitWork_rotation (ps : List Byte) (s : State) :
    (tariffCommitWork ps s).1.rotation = s.rotation := by
  unfold tariffCommitWork
  split <;> rfl

theorem tariffDiscardWork_rotation (ps : List Byte) (s : State) :
    (tariffDiscardWork ps s).1.rotation = s.rotation :=
  rfl

theorem setBandWork_rotation (ps : List Byte) (s : State) :
    (setBandWork ps s).1.rotation = s.rotation := by
  unfold setBandWork
  split <;> rfl

theorem setUnknownPolicyWork_rotation (ps : List Byte) (s : State) :
    (setUnknownPolicyWork ps s).1.rotation = s.rotation := by
  unfold setUnknownPolicyWork
  split <;> rfl

theorem discoveryTakeWork_rotation (ps : List Byte) (s : State) :
    (discoveryTakeWork ps s).1.rotation = s.rotation := by
  unfold discoveryTakeWork
  split <;> rfl

theorem discoveryClearWork_rotation (ps : List Byte) (s : State) :
    (discoveryClearWork ps s).1.rotation = s.rotation :=
  rfl

theorem lineConfigWork_rotation (ps : List Byte) (s : State) :
    (lineConfigWork ps s).1.rotation = s.rotation := by
  unfold lineConfigWork
  dsimp only
  (repeat' split) <;> simp [State.refuse]

theorem lineModeWork_rotation (ps : List Byte) (s : State) :
    (lineModeWork ps s).1.rotation = s.rotation := by
  unfold lineModeWork
  split <;> rfl

theorem lineStatusWork_rotation (ps : List Byte) (s : State) :
    (lineStatusWork ps s).1.rotation = s.rotation := by
  unfold lineStatusWork
  split <;> rfl

theorem lineClearWork_rotation (ps : List Byte) (s : State) :
    (lineClearWork ps s).1.rotation = s.rotation := by
  unfold lineClearWork
  split <;> rfl

theorem setSilenceWork_rotation (ps : List Byte) (s : State) :
    (setSilenceWork ps s).1.rotation = s.rotation := by
  unfold setSilenceWork
  split <;> rfl

theorem setGraceWork_rotation (ps : List Byte) (s : State) :
    (setGraceWork ps s).1.rotation = s.rotation :=
  rfl

theorem setTimeWork_rotation (ps : List Byte) (s : State) :
    (setTimeWork ps s).1.rotation = s.rotation :=
  rfl

theorem readTimeWork_rotation (ps : List Byte) (s : State) :
    (readTimeWork ps s).1.rotation = s.rotation :=
  rfl

theorem groupConfigWork_rotation (ps : List Byte) (s : State) :
    (groupConfigWork ps s).1.rotation = s.rotation := by
  unfold groupConfigWork
  split <;> rfl

theorem State.fetchAccount_rotation (s : State) (g : GroupNo) (i : Slot) :
    (s.fetchAccount g i).1.rotation = s.rotation := by
  unfold State.fetchAccount
  dsimp only
  split <;> simp

theorem noticeFetchWork_rotation (ps : List Byte) (s : State) :
    (noticeFetchWork ps s).1.rotation = s.rotation := by
  unfold noticeFetchWork State.fetchFrom
  (repeat' split) <;> first
    | exact State.fetchAccount_rotation ..
    | rfl

theorem noticeAckWork_rotation (ps : List Byte) (s : State) :
    (noticeAckWork ps s).1.rotation = s.rotation := by
  unfold noticeAckWork
  split <;> rfl

theorem noticeClearWork_rotation (ps : List Byte) (s : State) :
    (noticeClearWork ps s).1.rotation = s.rotation := by
  unfold noticeClearWork
  split
  · rfl
  · refine State.onAccount_rotation fun i => ?_
    dsimp only
    (repeat' split) <;> simp

theorem noticeEnableWork_rotation (ps : List Byte) (s : State) :
    (noticeEnableWork ps s).1.rotation = s.rotation := by
  unfold noticeEnableWork
  (repeat' split) <;> rfl

theorem groupStatusWork_rotation (ps : List Byte) (s : State) :
    (groupStatusWork ps s).1.rotation = s.rotation := by
  unfold groupStatusWork
  split <;> rfl

theorem snapshotTakeWork_rotation (ps : List Byte) (s : State) :
    (snapshotTakeWork ps s).1.rotation = s.rotation := by
  unfold snapshotTakeWork
  split <;> rfl

theorem snapshotReadWork_rotation (ps : List Byte) (s : State) :
    (snapshotReadWork ps s).1.rotation = s.rotation := by
  unfold snapshotReadWork
  dsimp only
  (repeat' split) <;> simp [State.refuse]

theorem snapshotTotalsWork_rotation (ps : List Byte) (s : State) :
    (snapshotTotalsWork ps s).1.rotation = s.rotation := by
  unfold snapshotTotalsWork
  split <;> rfl

theorem snapshotReleaseWork_rotation (ps : List Byte) (s : State) :
    (snapshotReleaseWork ps s).1.rotation = s.rotation :=
  rfl

theorem checkpointWork_rotation (ps : List Byte) (s : State) :
    (checkpointWork ps s).1.rotation = s.rotation := by
  unfold checkpointWork
  (repeat' split) <;> rfl

theorem checkpointAbortWork_rotation (ps : List Byte) (s : State) :
    (checkpointAbortWork ps s).1.rotation = s.rotation := by
  unfold checkpointAbortWork
  split <;> rfl

theorem storeWipeWork_rotation (ps : List Byte) (s : State) :
    (storeWipeWork ps s).1.rotation = s.rotation := by
  unfold storeWipeWork
  split <;> rfl

theorem storeStatusWork_rotation (ps : List Byte) (s : State) :
    (storeStatusWork ps s).1.rotation = s.rotation :=
  rfl

theorem partIdentWork_rotation (ps : List Byte) (s : State) :
    (partIdentWork ps s).1.rotation = s.rotation :=
  rfl

/-! ### The work of the other grants, and start-up -/

theorem State.handleReport_rotation (s : State) (n : LineNo) (id : Identity)
    (sequence : Byte) (usage : Half) :
    (s.handleReport n id sequence usage).1.rotation = s.rotation := by
  unfold State.handleReport State.knownReport State.takeReport State.recordGap
    State.duplicateReport State.countDuplicate State.unknownReport
  dsimp only
  (repeat' split) <;> simp

theorem State.expireSilence_rotation (s : State) (e : TimedEntry) (rest : List TimedEntry) :
    (s.expireSilence e rest).rotation = s.rotation := by
  simp [State.expireSilence]

theorem State.expireGrace_rotation (s : State) (e : TimedEntry) (rest : List TimedEntry) :
    (s.expireGrace e rest).rotation = s.rotation := by
  simp [State.expireGrace]

theorem State.cleanPage_rotation (s : State) (k : Fin 64) :
    (s.cleanPage k).rotation = s.rotation := by
  have key : ∀ (js : List (Fin 16)) (t : State),
      (js.foldl (fun t j =>
        t.setAccount (pageSlot k j) { t.account (pageSlot k j) with dirty := false }) t).rotation =
          t.rotation := by
    intro js
    induction js with
    | nil => exact fun _ => rfl
    | cons j js ih => intro t; rw [List.foldl_cons, ih, State.setAccount_rotation]
  exact key _ s

theorem State.capturePage_rotation (s : State) (k : Fin 64) :
    (s.capturePage k).rotation = s.rotation := by
  simp [State.capturePage, State.cleanPage_rotation]

theorem State.placeImage_rotation (s : State) (i : Slot) (m : StoredImage) :
    (s.placeImage i m).rotation = s.rotation := by
  unfold State.placeImage
  (repeat' split) <;> rfl

theorem State.placePage_rotation (s : State) (k : Fin 64) (v : Vector StoredImage 16) :
    (s.placePage k v).rotation = s.rotation := by
  have key : ∀ (js : List (Fin 16)) (t : State),
      (js.foldl (fun t j => t.placeImage (pageSlot k j) v[j]) t).rotation = t.rotation := by
    intro js
    induction js with
    | nil => exact fun _ => rfl
    | cons j js ih => intro t; rw [List.foldl_cons, ih, State.placeImage_rotation]
  unfold State.placePage
  dsimp only
  split
  · rw [key]
  · rw [State.updateStore_rotation, key]

theorem State.loadPage_rotation (s : State) (k : Fin 64) : (s.loadPage k).rotation = s.rotation := by
  unfold State.loadPage
  split
  · exact State.placePage_rotation _ k _
  · rfl

theorem State.finishTable_rotation (s : State) : s.finishTable.rotation = s.rotation := by
  have key : ∀ (is : List Slot) (t : State),
      (is.foldl (fun t i => t.setKind i .closed) t).rotation = t.rotation := by
    intro is
    induction is with
    | nil => exact fun _ => rfl
    | cons i is ih => intro t; rw [List.foldl_cons, ih, State.setKind_rotation]
  unfold State.finishTable
  dsimp only
  rw [key, State.updateSupv_rotation]

theorem State.restoreTable_rotation (s : State) : s.restoreTable.rotation = s.rotation := by
  have key : ∀ (ks : List (Fin 64)) (t : State),
      (ks.foldl State.loadPage t).rotation = t.rotation := by
    intro ks
    induction ks with
    | nil => exact fun _ => rfl
    | cons k ks ih => intro t; rw [List.foldl_cons, ih, State.loadPage_rotation]
  have header : s.countHeader.rotation = s.rotation := by unfold State.countHeader; split <;> rfl
  have settings : ∀ t : State, t.loadSettings.rotation = t.rotation := by
    intro t; unfold State.loadSettings; split <;> rfl
  rw [State.restoreTable, State.finishTable_rotation, key, settings, header]

theorem State.openPort_rotation (s : State) : s.openPort.rotation = s.rotation := rfl

theorem State.startUp_rotation (s : State) : s.startUp.rotation = s.rotation := by
  have h : s.readHeader.rotation = s.rotation := by unfold State.readHeader; split <;> rfl
  unfold State.startUp
  dsimp only
  split
  · rw [State.openPort_rotation, State.updateStore_rotation, h]
  · rw [State.openPort_rotation, State.restoreTable_rotation, h]

end Sys2Proof.Machine
end

