-- ==== Sys2Proof/Tests/Slice0.lean ====
section
/-! SUPPORT. Tests of single steps on small states, most of them events of the worked examples of
spec/, the smoke test of the well-formedness check, and one witness for each statement with hypotheses:
states and operands that meet them, each clause at a boundary of its range. -/

namespace Sys2Proof.Tests

-- each evaluation in turn: many at once take more threads than the memory holds
set_option Elab.async false

open Sys2Proof Sys2Proof.Machine

/-! ### Small states -/

/-- The part in service, with an empty table. -/
def ready : State :=
  { State.reset with
    store := { State.reset.store with state := .idle }
    port := { State.reset.port with state := .ready, opened := true } }

/-- A request with tag 5Ah. -/
def request (q : Req) (ps : List Byte) : Request where
  req := q
  tag := 0x5A
  params := ps

/-- A state with a request in execution, the executor first in turn. -/
def serve (q : Req) (ps : List Byte) (s : State := ready) : State :=
  { s with
    rotation := .exec
    port := { s.port with executing := some (request q ps), opened := true } }

/-- The state a command leaves. -/
def after (c : Instr) (s : State) : State :=
  match exec c s with
  | .next t => t
  | .fault _ => s
  | .refused _ => s

/-- The responses a request leaves. -/
def answer (c : Instr) (q : Req) (ps : List Byte) (s : State := ready) : List Byte :=
  (after c (serve q ps s)).port.responses

/-- The tariff class of the worked example of chapter 3. -/
def class4 : TariffClass where
  price := #v[8, 12, 5, 5]
  low := 2000
  hold := 0
  resume := 500

/-- The account of the worked example of chapter 3, as it stands at the start. -/
def account5 : AccountImage where
  state := .active
  identity := 0x00417C202C48
  suspended := false
  tariffClass := 4
  group := 2
  balance := 3000
  consumption := 41200
  lowOverride := none
  lowArmed := true
  lastSequence := some 0x0F
  lastLine := some 0
  lastTime := some 1
  reportCount := 1
  gapCount := 0

/-- A state with one account in slot 005h, indexed, in class 4 of both copies. -/
def one (a : AccountImage) (pending : KindSet := 0) (s : State := ready) : State :=
  { s with
    table := [(5, { image := a, silent := false, pending := pending, dirty := false })]
    occupancy := 1
    highWater := 1
    index :=
      { s.index with
        buckets := [(bucketOf a.identity, #v[some { identity := a.identity, slot := 5 }, none, none,
          none])] }
    tariff :=
      { s.tariff with live := s.tariff.live.set 4 class4, staged := s.tariff.staged.set 4 class4 } }

/-- Slot 005h of a state. -/
def slot5 (s : State) : AccountImage := (s.account 5).image

/-- A state with one line as given. -/
def lined (n : LineNo) (l : Line) (s : State := ready) : State :=
  { s with rotation := .line n, lines := s.lines.set n l }

/-- An ACTIVE line with the receive slots given. -/
def line (slots : List RxSlot) : Line :=
  { Line.reset with mode := .active, receiver := .listening, slots := slots }

/-- A WAITING report of the account of slot 005h. -/
def report (sequence : Byte) (usage : Half) : RxSlot where
  state := .waiting
  identity := account5.identity
  sequence := sequence
  usage := usage
  ended := 1000
  deadline := 1000 + 40 * 192
  late := false
  discard := false

/-- A whole transaction: from CS_N falling to CS_N rising on a byte boundary. -/
def whole (received : List Byte) : SpiPiece where
  opens := true
  received := received
  ends := some 0

/-- A whole transaction of `n` byte times after its first byte. -/
def reading (n : Nat) : SpiPiece := whole (List.replicate n 0x00)

/-- The state of a receive slot of a READY line 0. -/
def slotState (s : State) : List RxState := s.lines[0].slots.map fun r => r.state

/-! ### Formats -/

/-- The check value of R27. -/
theorem test_crc_check_value :
    crc16 [0x31, 0x32, 0x33, 0x34, 0x35, 0x36, 0x37, 0x38, 0x39] = 0x29B1 := by decide +kernel

theorem test_crc_of_nothing : crc16 [] = 0xFFFF := by decide

theorem test_reply_frame_has_thirteen_bytes :
    (replyFrame account5.identity 0x21 { command := .on, reason := .normal, balanceClass := 1 }).take 11
      = [0xD2, 0x00, 0x41, 0x7C, 0x20, 0x2C, 0x48, 0x21, 0x00, 0x00, 0x01] := by decide +kernel

theorem test_request_codes : Req.ofCode 0x7E = some .partIdent ∧ Req.ofCode 0x2F = none := by decide

theorem test_no_row_has_bits : decodeTableWord 8 0x10 = none := rfl

/-! ### Well-formedness: the check refuses a term for each transaction byte -/

theorem test_wellFormed_refuses_request_write :
    (Instr.unknownTransaction 0x01 (reading 0)).wellFormed = false := by decide
theorem test_wellFormed_refuses_response_read :
    (Instr.unknownTransaction 0x02 (reading 0)).wellFormed = false := by decide
theorem test_wellFormed_refuses_status_read :
    (Instr.unknownTransaction 0x03 (reading 0)).wellFormed = false := by decide
theorem test_wellFormed_refuses_port_flush :
    (Instr.unknownTransaction 0x04 (reading 0)).wellFormed = false := by decide
theorem test_wellFormed_takes_others :
    (Instr.unknownTransaction 0x05 (reading 2)).wellFormed = true := by decide

/-! ### One step of a command -/

/-- The queue is first in, first out. -/
theorem test_step_takes_the_front :
    step { ready with pending := [.secondEdge, .startUp] } =
      exec .secondEdge { ready with pending := [.startUp] } := rfl

/-- A pin reset holds the part: no account, RDY released, no transaction and no start-up until STARTMODE
has been taken at the release. -/
theorem test_pinReset :
    let held := after (.pinReset .resetDriven .blank) (one account5)
    let released := after (.pinReset .released .restore) held
    held.table = [] ∧ held.rdy = false ∧
      (after (.requestWrite (whole [0x7E])) held).port = held.port ∧
      (after .startUp held).store.state = .start ∧ released.store.startMode = .restore ∧
      released.rdy = true := by
  decide +kernel

/-- A PART_RESET inside a STATUS_READ ends it: the rest of its byte times gives 00h, and CS_N rising ends
the transaction. -/
theorem test_partReset_ends_a_transaction :
    let s := after (.statusRead { opens := true, received := [0x00], ends := none }) ready
    let t := after .partReset (serve .partReset [0x00] s)
    let u := after (.statusRead { opens := false, received := [0x00], ends := some 0 }) t
    s.port.miso = [0x00, 0x01] ∧ t.port.spi.map Spi.ended = some true ∧
      u.port.miso = [0x00, 0x01, 0x00] ∧ u.port.spi = none := by decide +kernel

theorem test_partReset_interrupts_a_checkpoint :
    (after .partReset (serve .partReset [0x01]
      { ready with store := { ready.store with state := .checkpoint } })).store.lastResult =
        .interrupted := by decide +kernel

theorem test_startUp_blank :
    (after .startUp State.reset).port.state = .ready ∧
      (after .startUp State.reset).store.rewrite.length = 64 := by decide +kernel

/-- Event 1 of the worked example of chapter 6. -/
theorem test_secondEdge_marks_the_due_head :
    (after .secondEdge { ready with supv := { ready.supv with
      uptime := 9599, silenceLimit := 3600, gracePeriod := 600
      silence := [{ slot := 0x10, time := 6000 }], grace := [{ slot := 0x11, time := 9500 }] } }).supv =
    { ready.supv with
      uptime := 9600, calendar := 1, silenceLimit := 3600, gracePeriod := 600
      silence := [{ slot := 0x10, time := 6000 }], grace := [{ slot := 0x11, time := 9500 }]
      silenceMark := true } := by decide +kernel

/-- A state whose SUPV claim is for the silence or the grace head in slot 005h. -/
def due (silence : Bool) (a : AccountImage := account5) : State :=
  let s := one a
  { s with
    rotation := .supv
    supv := { s.supv with
      uptime := 100
      silenceLimit := 60
      gracePeriod := 60
      silence := if silence then [{ slot := 5, time := 40 }] else []
      grace := if silence then [] else [{ slot := 5, time := 40 }]
      silenceMark := silence
      graceMark := !silence } }

theorem test_silenceExpiry :
    ((after .silenceExpiry (due true)).account 5).silent = true ∧
      ((after .silenceExpiry (due true)).account 5).pending = 0x10 ∧
      (after .silenceExpiry (due true)).supv.silence = [] := by decide +kernel

theorem test_graceExpiry :
    (slot5 (after .graceExpiry (due false { account5 with state := .grace }))).state = .held ∧
      ((after .graceExpiry (due false { account5 with state := .grace })).account 5).pending = 0x04 ∧
      ((after .graceExpiry (due false { account5 with state := .grace })).account 5).dirty = true := by
  decide +kernel

/-- The twelve bytes of a report of slot 005h's meter, sequence 10h, usage 50. -/
def frame : List Byte :=
  let body := [0xD1, 0x00, 0x41, 0x7C, 0x20, 0x2C, 0x48, 0x10, 0x00, 0x32]
  body ++ bytes16 (crc16 body)

theorem test_frameCharacterReceived :
    let begun := after (.frameCharacterReceived 0 0 7 (.startBit 0)) (lined 0 (line []))
    begun.lines[0].receiver = .assembling [] (.character 7) ∧
      (after (.frameCharacterReceived 0 0xD1 7 .stopBit) begun).lines[0].receiver =
        .assembling [0xD1] (.gap 207) := by decide +kernel

/-- The break on a line: the character is a framing error, and a start bit is taken again once the line
has been high for a bit time. -/
theorem test_framingError :
    let begun := after (.framingError 0 7 (.startBit 0)) (lined 0 (line []))
    let broken := after (.framingError 0 7 .stopBit) begun
    broken.lines[0].counters.framingErrors = 1 ∧ broken.lines[0].receiver = .listening ∧
      (after (.frameCharacterReceived 0 0 226 (.startBit 19)) broken).lines[0].receiver =
        .listening ∧
      (after (.frameCharacterReceived 0 0 227 (.startBit 20)) broken).lines[0].receiver =
        .assembling [] (.character 227) := by decide +kernel

theorem test_frameGapTimeout :
    (after (.frameGapTimeout 0 601)
      (lined 0 { line [] with receiver := .assembling [0xD1] (.gap 200) })).lines[0].receiver =
        .listening := by decide +kernel

/-- A line that holds the first eleven bytes of `frame`, the twelfth arriving. -/
def eleven : Line := { line [] with receiver := .assembling (frame.take 11) (.character 2000) }

theorem test_reportFrame :
    (after (.reportFrame 0 (byteAt frame 11) 2000) (lined 0 eleven)).lines[0].slots =
      [{ report 0x10 50 with ended := 2200, deadline := 2200 + 40 * 192 }] := by decide +kernel

theorem test_contentionCharacter :
    (after (.contentionCharacter 0 0)
      (lined 0 { line [] with receiver := .muted })).lines[0].counters.contention = 1 := by
  decide +kernel

/-- Time 40 of the worked example of chapter 4. -/
theorem test_replyDeadline :
    (after (.replyDeadline 0 .older 8680) (lined 0 (line [report 0x10 50]))).lines[0].slots =
      [{ report 0x10 50 with late := true }] := by decide +kernel

/-- A READY slot of slot 005h's meter. -/
def readySlot (order : ReturnOrder := .first) : RxSlot :=
  { report 0x10 50 with
    state := .ready { command := .on, reason := .normal, balanceClass := 0 } order }

theorem test_replyStart :
    ((after (.replyStart 0 1400) (lined 0 (line [readySlot]))).lines[0].transmitter.map
      fun x => (x.frame.length, x.endsAt)) = some (13, 1400 + 13 * 200) := by decide +kernel

theorem test_replySent :
    (after (.replySent 0 4000) (after (.replyStart 0 1400)
      (lined 0 (line [readySlot])))).lines[0] =
      { line [] with counters := { LineCounters.zero with repliesSent := 1 } } := by decide +kernel

/-- The last worked example of chapter 4: a retry that has begun holds a reply back, from its first start
bit on. -/
theorem test_replyStart_waits :
    let s := after (.frameCharacterReceived 0 0 1399 (.startBit 0)) (lined 0 (line [readySlot]))
    (after (.replyStart 0 1400) s).lines[0] = s.lines[0] := by decide +kernel

/-- The level of LTXn in the start bit, the least significant bit and the stop bit of the first character,
and after the last (the frame begins with D2h). -/
theorem test_ltx :
    let l := (after (.replyStart 0 1400) (lined 0 (line [readySlot]))).lines[0]
    l.lde = true ∧ l.ltx 1399 = true ∧ l.ltx 1400 = false ∧ l.ltx 1420 = false ∧ l.ltx 1440 = true ∧
      l.ltx 1580 = true ∧ l.ltx 1600 = false ∧ l.ltx 4000 = true := by decide +kernel

/-- Event 1 of the worked example of chapter 3: the grant, then the return of its result. -/
theorem test_reportGrant_taken :
    let u := after (.reportGrant (.work 0)) (lined 0 (line [report 0x10 50]) (one account5))
    let t := after (.reportGrant (.result 0)) u
    let c : ReplyContent := { command := .on, reason := .normal, balanceClass := 0 }
    (slot5 u).balance = 2600 ∧ (slot5 u).consumption = 41250 ∧ (slot5 u).state = .active ∧
      slotState u = [.inTable (some c)] ∧ u.granted = none ∧ slotState t = [.ready c .first] := by
  decide +kernel

/-- A line is DISABLED between a grant and the return of its result, and made ACTIVE again: the result
is discarded and no reply counts as late, though the deadline had passed (R76, R83, R86). -/
theorem test_reportGrant_discards :
    let u := after (.reportGrant (.work 0)) (lined 0 (line [report 0x10 50]) (one account5))
    let v := after (.replyDeadline 0 .older 8680) u
    let disabled := after .lineMode (serve .lineMode [0x00, 0x00] v)
    let active := after .lineMode (serve .lineMode [0x00, 0x02] disabled)
    let t := after (.reportGrant (.result 0)) active
    disabled.lines[0].slotByte 0 = 0x32 ∧ disabled.lines[0].slots.map RxSlot.discard = [true] ∧
      active.lines[0].mode = .active ∧ t.lines[0].slots = [] ∧
      t.lines[0].counters.lateReplies = 0 ∧ (slot5 t).balance = 2600 := by decide +kernel

/-- Event 5 of the same example, in band 0: the account goes to GRACE. -/
theorem test_reportGrant_grace :
    let s := one { account5 with balance := 680, lowArmed := false }
    let t := after (.reportGrant (.result 0)) (after (.reportGrant (.work 0))
      (lined 0 (line [report 0x10 105])
        { s with supv := { s.supv with gracePeriod := 3600, uptime := 50400 } }))
    (slot5 t).balance.toInt = -160 ∧ (slot5 t).state = .grace ∧
      t.supv.grace = [{ slot := 5, time := 50400 }] ∧ (t.account 5).pending = 0x02 ∧
      slotState t = [.ready { command := .on, reason := .grace, balanceClass := 2 } .first] := by
  decide +kernel

theorem test_sweepStep :
    let t := after .sweepStep { one account5 with
      rotation := .sweep
      snapshot := { Snapshot.reset with state := .sweeping, cursor := 0 } }
    t.snapshot.present = 1 ∧ t.snapshot.cursor = 16 ∧ t.snapshot.balanceSum = 3000 := by
  decide +kernel

/-- A store with a CAPT claim. -/
def claiming (work : CaptureWork) (mode : CheckpointMode) (cursor : Nat) : State :=
  { one account5 with
    rotation := .capt
    store := { ready.store with
      state := .checkpoint, mode := mode, cursor := cursor, claim := some work, generation := 1 } }

/-- A store with a page in a phase. -/
def working (page : Fin 66) (phase : WritePhase) (cursor : Nat := 4) : State :=
  { ready with store := { ready.store with
      state := .checkpoint, cursor := cursor, inProgress := some { page := page, phase := phase }
      generation := 1, latch := .written (.header .zero) 0 1 true } }

theorem test_settingsPageCapture :
    (after .settingsPageCapture (claiming .settings .full 2)).store.inProgress =
      some { page := 1, phase := .erasing } := by decide +kernel

theorem test_accountPageCapture :
    (after .accountPageCapture (claiming .account .full 2)).store.cursor = 3 := by decide +kernel

theorem test_pageEraseDone :
    (after .pageEraseDone (working 2 .erasing)).store.inProgress =
      some { page := 2, phase := .programming } := by decide +kernel

theorem test_pageProgramDone :
    (after .pageProgramDone (working 2 .programming)).store.pagesWritten = 1 := by decide +kernel

theorem test_pageVerifyDone_completes :
    (after (.pageVerifyDone .matched) (working 0 .verifying)).store.lastResult = .complete ∧
      (after (.pageVerifyDone .matched) (working 0 .verifying)).store.headerGeneration = 1 := by
  decide +kernel

theorem test_wipePageEraseDone :
    (after .wipePageEraseDone { ready with store := { ready.store with
      state := .wiping, inProgress := some { page := 65, phase := .erasing } } }).store.lastResult =
        .wiped := by decide +kernel

/-! ### The port: the worked example of chapter 10 -/

theorem test_requestWrite :
    (after (.requestWrite (whole [0x20, 0x5A, 0x06, 0x00, 0x05])) ready).port.requests =
      [0x20, 0x5A, 0x06, 0x00, 0x05] := by decide +kernel

theorem test_responseRead :
    let t := after (.responseRead (reading 2)) { ready with port := { ready.port with responses := [0x5A] } }
    t.port.miso = [0x00, 0x5A, 0x00] ∧ t.port.underrun = true ∧ t.port.responses = [] := by
  decide +kernel

/-- CS_N rises after three bits of a byte: its bits before that were sent, and it leaves the queue. -/
theorem test_responseRead_cut :
    let t := after (.responseRead { opens := true, received := [], ends := some 3 })
      { ready with port := { ready.port with responses := [0xA0, 0x11] } }
    t.port.responses = [0x11] ∧ t.port.misoBits = [true, false, true] ∧ t.port.spi = none ∧
      t.port.underrun = false := by decide +kernel

/-- A response placed between two byte times is sent from the next byte time on. -/
theorem test_responseRead_goes_on :
    let s := after (.responseRead { opens := true, received := [0x00], ends := none }) ready
    let t := { s with port := { s.port with responses := [0x5A] } }
    (after (.responseRead { opens := false, received := [0x00], ends := some 0 }) t).port.miso = [0x00, 0x00, 0x5A] := by
  decide +kernel

/-- Event 2. -/
theorem test_statusRead :
    (after (.statusRead (reading 4))
      (after (.requestWrite (whole [0x20, 0x5A, 0x06, 0x00, 0x05])) ready)).port.miso =
      [0x00, 0x01, 0x05, 0x00, 0x00] := by decide +kernel

/-- Event 6. -/
theorem test_executorTake_faults :
    let t := after .executorTake (after (.requestWrite (whole [0x2F, 0x5B, 0x00])) ready)
    t.port.responses = [0x5B, 0x2F, 0x20, 0x01, 0x01] ∧ t.port.state = .fault ∧
      t.port.requests = [0x2F, 0x5B, 0x00] := by decide +kernel

/-- Event 9. -/
theorem test_portFlush :
    let t := after (.portFlush (reading 0))
      (after .executorTake (after (.requestWrite (whole [0x2F, 0x5B, 0x00])) ready))
    t.port.state = .ready ∧ t.port.requests = [] ∧ t.port.cause = .none := by decide +kernel

theorem test_unknownTransaction :
    (after (.unknownTransaction 0x05 (reading 1)) ready).port = { ready.port with miso := [0x00, 0x00] } := by
  decide +kernel

theorem test_overflowFaultResponse :
    (after .overflowFaultResponse { ready with port := { ready.port with
      state := .fault, cause := .overflow, faultResponse := true } }).port.responses =
        [0x00, 0x00, 0x20, 0x01, 0x03] := by decide +kernel

/-- Event 10. -/
theorem test_partIdent :
    answer .partIdent .partIdent [] =
      [0x5A, 0x7E, 0x00, 0x06, 0x10, 0x24, 0x01, 0x04, 0x00, 0x42] := by decide +kernel

/-! ### Requests on accounts -/

/-- The parameters of the ENROL of the worked example of chapter 11. -/
def enrolParams : List Byte :=
  [0x00, 0x41, 0x7C, 0x20, 0x1B, 0x77, 0x02, 0x01, 0x00, 0x00, 0x17, 0x70, 0x02,
   0x00, 0x00, 0x1F, 0x40]

theorem test_enrol_on_the_wire :
    answer .enrol .enrol enrolParams = [0x5A, 0x10, 0x00, 0x03, 0x00, 0x00, 0x00] := by
  decide +kernel

theorem test_enrol_duplicate :
    answer .enrol .enrol ([0x00, 0x41, 0x7C, 0x20, 0x2C, 0x48] ++ enrolParams.drop 6) (one account5) =
      [0x5A, 0x10, 0x12, 0x00] := by decide +kernel

theorem test_accountRead_length :
    (answer .accountRead .accountRead [0x00, 0x05] (one account5)).take 4 =
      [0x5A, 0x11, 0x00, 0x2A] := by decide +kernel

theorem test_find :
    answer .find .find [0x00, 0x41, 0x7C, 0x20, 0x2C, 0x48] (one account5) =
      [0x5A, 0x12, 0x00, 0x03, 0x00, 0x05, 0x00] := by decide +kernel

theorem test_setClass :
    answer .setClass .setClass [0x00, 0x05, 0x0F] (one account5) = [0x5A, 0x13, 0x00, 0x01, 0x00] := by
  decide +kernel

theorem test_setGroup_moves_the_counts :
    let s := one account5 0x20
    let n := { s.notices with
      groups := s.notices.groups.set 2 { s.notices.groups[2] with
        count := s.notices.groups[2].count.set 5 1, state := .raised } }
    let t := after .setGroup (serve .setGroup [0x00, 0x05, 0x07] { s with notices := n })
    t.notices.groups[2].count[5] = 0 ∧ t.notices.groups[7].count[5] = 1 ∧
      t.notices.groups[7].state = .raised := by decide +kernel

theorem test_setLow :
    (slot5 (after .setLow (serve .setLow [0x00, 0x05, 0x01, 0x00, 0x00, 0x1F, 0x40]
      (one account5)))).lowOverride = some 8000 := by decide +kernel

theorem test_retire :
    (after .retire (serve .retire [0x00, 0x05] (one account5))).notices.groups[2].count[6] = 1 := by
  decide +kernel

theorem test_purge :
    let t := after .purge (serve .purge [0x00, 0x05] (one account5))
    t.table = [(5, { Record.free with dirty := true })] ∧ t.occupancy = 0 ∧
      t.index.lookup account5.identity = none := by decide +kernel

theorem test_tableStatus :
    answer .tableStatus .tableStatus [] (one account5) =
      [0x5A, 0x18, 0x00, 0x0F, 0x00, 0x01, 0x00, 0x01, 0x00, 0x00, 0x00, 0x01, 0x00, 0x00,
       0x00, 0x00, 0x00, 0x00, 0x00] := by decide +kernel

theorem test_highwaterReset :
    (after .highwaterReset (serve .highwaterReset [] { one account5 with highWater := 9 })).highWater = 1
      := by decide +kernel

/-- Event 4 of the worked example of chapter 10. -/
theorem test_adjust_on_the_wire :
    answer .adjust .adjust [0x00, 0x05, 0x00, 0x00, 0x02, 0xBC]
        (one { account5 with state := .held, balance := BitVec.ofInt 32 (-460) }) =
      [0x5A, 0x20, 0x00, 0x05, 0x00, 0x00, 0x00, 0xF0, 0x02] := by decide +kernel

theorem test_suspend :
    (slot5 (after .suspend (serve .suspend [0x00, 0x05] (one account5)))).suspended = true := by
  decide +kernel

theorem test_unsuspend :
    answer .unsuspend .unsuspend [0x00, 0x05] (one { account5 with suspended := true }) =
      [0x5A, 0x22, 0x00, 0x01, 0x00] := by decide +kernel

/-! ### Requests of the other blocks -/

theorem test_tariffStage :
    (after .tariffStage (serve .tariffStage ([0x04] ++ bytes16 8 ++ bytes16 12 ++ bytes16 5 ++
      bytes16 5 ++ bytes32 2000 ++ bytes32 0 ++ bytes32 500))).tariff.staged[4] = class4 := by
  decide +kernel

theorem test_tariffRead :
    (answer .tariffRead .tariffRead [0x04, 0x01] (one account5)).take 8 =
      [0x5A, 0x24, 0x00, 0x16, 0x04, 0x01, 0x00, 0x08] := by decide +kernel

theorem test_tariffCommit_refuses :
    answer .tariffCommit .tariffCommit [] { ready with tariff := { ready.tariff with
      staged := ready.tariff.staged.set 7 { class4 with resume := 0 } } } =
        [0x5A, 0x25, 0x1C, 0x01, 0x07] := by decide +kernel

theorem test_tariffDiscard :
    (after .tariffDiscard (serve .tariffDiscard [] { ready with tariff := { ready.tariff with
      staged := ready.tariff.staged.set 7 class4 } })).tariff = ready.tariff := by decide +kernel

theorem test_setBand : answer .setBand .setBand [0x01] = [0x5A, 0x27, 0x00, 0x01, 0x00] := by
  decide +kernel

theorem test_lineConfig_refuses_a_short_window :
    answer .lineConfig .lineConfig [0x00, 0x00, 0x08] = [0x5A, 0x30, 0x10, 0x00] := by decide +kernel

theorem test_lineMode :
    (after .lineMode (serve .lineMode [0x01, 0x02])).lines[1] = line [] := by decide +kernel

theorem test_lineStatus :
    (answer .lineStatus .lineStatus [0x01]).take 13 =
      [0x5A, 0x32, 0x00, 0x1D, 0x01, 0x00, 0x01, 0x28, 0x00, 0x00, 0x00, 0x00, 0x00] := by
  decide +kernel

theorem test_lineClear :
    (answer .lineClear .lineClear [0x01]).length = 24 := by decide +kernel

theorem test_setUnknownPolicy :
    answer .setUnknownPolicy .setUnknownPolicy [0x02] = [0x5A, 0x38, 0x00, 0x01, 0x00] := by
  decide +kernel

/-- Event 4 of the worked example of chapter 5, with one entry left. -/
theorem test_discoveryTake :
    answer .discoveryTake .discoveryTake [] { ready with discovery :=
      { entries :=
          [{ identity := 0x00417C205A01, line := 0, firstSeen := 300100, sightings := 3
             lastSequence := 0x12 },
           { identity := 0x00417C205A02, line := 0, firstSeen := 300140, sightings := 1
             lastSequence := 0x07 }]
        overflow := 1
        policy := .hold } } =
      [0x5A, 0x39, 0x00, 0x10, 0x00, 0x41, 0x7C, 0x20, 0x5A, 0x01, 0x00, 0x00, 0x04, 0x94, 0x44, 0x03,
       0x12, 0x01, 0x00, 0x01] := by decide +kernel

theorem test_discoveryClear :
    answer .discoveryClear .discoveryClear [] = [0x5A, 0x3A, 0x00, 0x03, 0x00, 0x00, 0x00] := by
  decide +kernel

theorem test_setSilence_refuses :
    answer .setSilence .setSilence [0x00, 0x00, 0x00, 0x3B] = [0x5A, 0x40, 0x10, 0x00] := by
  decide +kernel

theorem test_setGrace : answer .setGrace .setGrace [0x00, 0x3C] = [0x5A, 0x41, 0x00, 0x02, 0x00, 0x00] :=
  by decide +kernel

theorem test_setTime :
    (after .setTime (serve .setTime [0x20, 0x00, 0x00, 0x00])).supv.calendar = 0x20000000 := by
  decide +kernel

theorem test_readTime : (answer .readTime .readTime []).length = 22 := by decide +kernel

theorem test_groupConfig :
    (after .groupConfig (serve .groupConfig [0x05, 0x6F, 0x01])).notices.groups[5] =
      { Group.reset with mask := 0x6F, priority := .high } := by decide +kernel

/-- Group 2 of slot 005h's account RAISED for its pending kinds. -/
def raised (a : AccountImage) (pending : KindSet) (kind : Fin 7) (state : GroupState := .raised) :
    State :=
  let s := one a pending
  { s with notices := { s.notices with
      groups := s.notices.groups.set 2 { s.notices.groups[2] with
        count := s.notices.groups[2].count.set kind 1, state := state } } }

/-- Event 6 of the worked example of chapter 7, for slot 005h. -/
theorem test_noticeFetch :
    let t := after .noticeFetch (serve .noticeFetch [0xFF]
      (raised { account5 with state := .held, balance := BitVec.ofInt 32 (-20) } 0x04 2))
    t.port.responses =
      [0x5A, 0x51, 0x00, 0x14, 0x02, 0x00, 0x05, 0x00, 0x41, 0x7C, 0x20, 0x2C, 0x48, 0x02,
       0xFF, 0xFF, 0xFF, 0xEC, 0x00, 0x00, 0xA0, 0xF0, 0x04, 0x00] ∧
      t.notices.groups[2].state = .served ∧ (t.account 5).pending = 0 := by decide +kernel

/-- Event 9 of the same example: a fetch that completes a retirement. -/
theorem test_noticeFetch_frees :
    let t := after .noticeFetch (serve .noticeFetch [0x02]
      (raised { account5 with state := .closing } 0x40 6 .served))
    t.table = [(5, { Record.free with dirty := true })] ∧ t.occupancy = 0 ∧
      t.notices.groups[2].count[6] = 0 := by decide +kernel

theorem test_noticeAck :
    answer .noticeAck .noticeAck [0x02] (raised account5 0x08 3 .served) =
      [0x5A, 0x52, 0x00, 0x01, 0x01] := by decide +kernel

theorem test_noticeClear :
    answer .noticeClear .noticeClear [0x00, 0x05, 0x7F] (raised account5 0x08 3) =
      [0x5A, 0x53, 0x00, 0x01, 0x08] := by decide +kernel

/-- Event 1 of the same example. -/
theorem test_noticeEnable :
    answer .noticeEnable .noticeEnable [0x01] = [0x5A, 0x54, 0x00, 0x01, 0x00] := by decide +kernel

theorem test_groupStatus :
    answer .groupStatus .groupStatus [0x02] (raised account5 0x01 0) =
      [0x5A, 0x55, 0x00, 0x12, 0x02, 0x01, 0x7F, 0x00, 0x00, 0x01] ++ List.replicate 12 0 := by
  decide +kernel

theorem test_snapshotTake :
    answer .snapshotTake .snapshotTake [] = [0x5A, 0x60, 0x01, 0x02, 0x00, 0x01] := by decide +kernel

theorem test_snapshotRead :
    (answer .snapshotRead .snapshotRead [0x00, 0x05]
      (after .snapshotTake (serve .snapshotTake [] (one account5)))).length = 6 + 27 := by decide +kernel

theorem test_snapshotTotals :
    answer .snapshotTotals .snapshotTotals [] = [0x5A, 0x62, 0x18, 0x00] := by decide +kernel

theorem test_snapshotRelease :
    answer .snapshotRelease .snapshotRelease [] = [0x5A, 0x63, 0x00, 0x01, 0x00] := by decide +kernel

theorem test_checkpoint :
    answer .checkpoint .checkpoint [0x01] = [0x5A, 0x70, 0x01, 0x02, 0x00, 0x01] := by decide +kernel

theorem test_checkpointAbort :
    answer .checkpointAbort .checkpointAbort [] (working 2 .erasing) =
      [0x5A, 0x71, 0x00, 0x01, 0x01] := by decide +kernel

theorem test_storeStatus :
    (answer .storeStatus .storeStatus []).take 9 =
      [0x5A, 0x72, 0x00, 0x15, 0x00, 0xFF, 0x00, 0x00, 0x00] := by decide +kernel

theorem test_storeWipe :
    answer .storeWipe .storeWipe [] = [0x5A, 0x73, 0x01, 0x00] := by decide +kernel

/-! ### Witnesses: states and operands that meet the hypotheses of each statement -/

/-- A request that is served, and a condition on the state that serves it. -/
structure Met (q : Req) (ps : List Byte) (s : State) (holds : State → Request → Prop) : Prop where
  serving : (serve q ps s).Serving q (request q ps)
  holds : holds (serve q ps s) (request q ps)

/-- The executor that is first in turn with a request is granted. -/
theorem serve_serving (q : Req) (ps : List Byte) (s : State)
    (ht : s.tableBusy = false := by decide +kernel) : (serve q ps s).Serving q (request q ps) := by
  refine ⟨rfl, rfl, rfl, fun h => ?_⟩
  have claims : (serve q ps s).claims .exec = true := by
    simpa [State.claims, serve, request] using h
  have free : (serve q ps s).tableBusy = false := ht
  simp only [State.granted, free]
  simp [serve, Claimant.turns, List.find?] at claims ⊢
  rw [claims]

/-- So a request is met wherever its condition holds. -/
theorem met {q : Req} {ps : List Byte} {s : State} {p : State → Request → Prop}
    (h : p (serve q ps s) (request q ps)) (ht : s.tableBusy = false := by decide +kernel) :
    Met q ps s p := ⟨serve_serving q ps s ht, h⟩

theorem witness_StepRunsTheFrontCommand :
    { ready with pending := [Instr.startUp] }.pending = .startUp :: [] ∧ ready.pending = [] :=
  ⟨rfl, rfl⟩

/-- A claimant that is not granted, a line with no slot IN_TABLE, a request that is not in execution, and
one that is but has no grant. -/
theorem witness_EveryCommandGoesOn :
    (Instr.claimant? (.reportGrant (.work 3)) = some (.line 3) ∧
      Instr.claimant? .accountPageCapture = some .capt ∧ ready.granted = none) ∧
    ready.lines[(0 : LineNo)].slots = [] ∧
    ((Req.enrol, Instr.enrol) ∈ requestCommands ∧ ready.port.executing = none) ∧
    (Req.enrol ∈ grantRequests ∧ Req.partReset ∉ grantRequests ∧
      (serve .enrol enrolParams (lined 0
        (line [{ report 1 1 with state := .inTable none }]))).granted = none) := by
  decide +kernel

/-- Both heads marked, the silence head due one second before the grace head. -/
def bothDue (grace : Nat) : State :=
  let s := due true
  { s with supv := { s.supv with
      grace := [{ slot := 6, time := BitVec.ofNat 32 grace }], graceMark := true } }

/-- Line 3 and EXEC with claims: the search from line 3 takes the line, the search from EXEC takes EXEC,
and one that begins at SUPV goes round to line 3; a line that is granted keeps the table. -/
theorem witness_ArbiterGrantsInRotation :
    let s := serve .enrol enrolParams { ready with lines := ready.lines.set 3 (line [report 1 1]) }
    let busy := { s with lines := s.lines.set 0 (line [{ report 2 2 with state := .inTable none }]) }
    { s with rotation := .line 3 }.granted = some (.line 3) ∧ s.granted = some .exec ∧
      { s with rotation := .supv }.granted = some (.line 3) ∧ busy.granted = none ∧
      { s with port := { s.port with opened := false } }.granted = none ∧
      Claimant.passed .capt (.line 0) = 1 ∧ Claimant.passed (.line 0) .capt = 7 ∧
      { ready with snapshot := { ready.snapshot with state := .sweeping } }.granted = some .sweep ∧
      { ready with store := { ready.store with claim := some .settings } }.granted = some .capt ∧
      { ready with store := { ready.store with claim := some .account } }.granted = some .capt ∧
      (bothDue 41).granted = some .supv ∧ (bothDue 41).supv.silence ≠ [] ∧
      (bothDue 41).supv.grace ≠ [] ∧ (Req.enrol, Instr.enrol) ∈ requestCommands ∧
      Req.enrol ∈ grantRequests ∧ s.port.executing = some (request .enrol enrolParams) ∧
      ((after (.reportGrant (.work 3)) { s with rotation := .line 3 }).rotation = .exec ∧
        (after .enrol s).rotation = .supv ∧ (after .silenceExpiry (bothDue 41)).rotation = .sweep ∧
        (after .readTime s).rotation = .exec) := by decide +kernel

/-- A drive of RESET_N that is high, a release of one that is low; the parameters of PART_RESET: both
modes, and the least value out of range. -/
theorem witness_ResetSetsEveryBlock :
    ready.resetHeld = false ∧ (after (.pinReset .powerApplied .blank) ready).resetHeld = true ∧
    Met .partReset [0x00] ready (fun _ r => byteAt r.params 0 = startModeCode .blank) ∧
    Met .partReset [0x01] ready (fun _ r => byteAt r.params 0 = startModeCode .restore) ∧
    Met .partReset [0x02] ready (fun _ r => 0x01 < (byteAt r.params 0).toNat) := by
  refine ⟨rfl, by decide +kernel, ?_⟩
  and_intros <;> exact met (by decide +kernel)

/-- A write that a reset cuts off in each phase, and a page that is not in progress. -/
theorem witness_ResetKeepsTheArray :
    Met .partReset [0x01] (working 2 .erasing) (fun s _ =>
      s.store.inProgress = some { page := 2, phase := .erasing }) ∧
    Met .partReset [0x00] (working 65 .programming) (fun s _ =>
      s.store.inProgress = some { page := 65, phase := .programming }) ∧
    Met .partReset [0x00] (working 0 .verifying) (fun s _ =>
      s.store.inProgress = some { page := 0, phase := .verifying }) ∧
    Met .partReset [0x00] ready (fun s _ => s.store.inProgress = none) := by
  and_intros <;> exact met (by decide +kernel)

/-- The part after a reset with STARTMODE high, and an array of three written pages. -/
def restoring : State :=
  { State.reset with store := { State.reset.store with
      startMode := .restore
      array := ((State.reset.store.array.set 0 (.written (.header .zero) 0 7 true)).set 1
        (.written (.settings ready.settings) 1 7 true)).set 2
        (.written (.account (Vector.replicate 16 account5.stored)) 2 7 true) } }

/-- A state that no command but the resets has touched is as its reset left it. -/
theorem atReset_of_store (st : Store) (hw : st.inProgress = none ∧ st.claim = none ∧ st.rewrite = [])
    (hr : st.restored = .zero) : { State.reset with store := st }.AtReset :=
  ⟨rfl, rfl, rfl, rfl, rfl, rfl, rfl, rfl, ⟨rfl, rfl⟩, ⟨rfl, rfl⟩, ⟨rfl, rfl⟩, rfl, rfl, hw, hr,
    ⟨rfl, rfl, rfl, rfl⟩⟩

theorem witness_BlankStartUpOpensThePort :
    State.reset.store.state = .start ∧ State.reset.resetHeld = false ∧
      State.reset.store.startMode = .blank ∧ ready.store.state ≠ .start ∧
      (∀ f g, State.reset.store.array[0] ≠ .written (.header f) 0 g true) ∧
      restoring.store.array[0] = .written (.header .zero) 0 7 true := by
  refine ⟨rfl, rfl, rfl, by decide, ?_, ?_⟩
  · intro f g h
    have : State.reset.store.array[0] = Page.erased := by decide +kernel
    rw [this] at h
    cases h
  · decide +kernel

/-- Three pages are accepted and 63 lost. -/
theorem witness_RestoreStartUpReadsThePages :
    restoring.AtReset ∧ restoring.resetHeld = false ∧ restoring.store.state = .start ∧
      restoring.store.startMode = .restore ∧
      restoring.store.array[1] = .written (.settings ready.settings) 1 7 true ∧
      ((List.finRange 66).countP fun n : Fin 66 => restoring.store.array[n].acceptedAs n) = 3 ∧
      (restoring.store.array[1].hasGeneration 7 = true ∧
        restoring.store.array[1].hasGeneration 6 = false) :=
  ⟨atReset_of_store _ ⟨rfl, rfl, rfl⟩ rfl, rfl, rfl, rfl, by decide +kernel⟩

/-- Page 2 is accepted; its sixteen images hold one identity, so slot 000h is placed and the other
fifteen are dropped as duplicates. -/
theorem witness_RestoreStartUpFillsTheTable :
    restoring.AtReset ∧ restoring.resetHeld = false ∧
      restoring.Accepts 0 (Vector.replicate 16 account5.stored) ∧
      restoring.store.array[65] = .erased ∧ restoring.storedAt 0 = some account5.stored ∧
      restoring.storedAt 1023 = none ∧ account5.stored.inRange = true ∧
      { account5.stored with tariffClass := 16 }.inRange = false ∧
      (after .startUp restoring).heldBelow 1 account5.identity = true ∧
      (after .startUp restoring).heldBelow 0 account5.identity = false ∧
      (after .startUp restoring).store.restored.duplicates = 15 :=
  ⟨atReset_of_store _ ⟨rfl, rfl, rfl⟩ rfl, rfl, ⟨7, by decide +kernel⟩, by decide +kernel⟩

theorem witness_SilenceExpiryMakesTheHeadSilent :
    (bothDue 41).granted = some .supv ∧ (bothDue 41).supv.silenceMark = true ∧
      (bothDue 41).supv.silence = [{ slot := 5, time := 40 }] ∧
      (40 : Word).toNat + (bothDue 41).supv.silenceLimit.toNat <
        (41 : Word).toNat + (bothDue 41).supv.gracePeriod.toNat := by decide +kernel

/-- At the same second the grace head is first. -/
theorem witness_GraceExpiryHoldsTheHead :
    (bothDue 40).granted = some .supv ∧ (bothDue 40).supv.graceMark = true ∧
      (bothDue 40).supv.grace = [{ slot := 6, time := 40 }] ∧
      (40 : Word).toNat + (bothDue 40).supv.gracePeriod.toNat ≤
        (40 : Word).toNat + (bothDue 40).supv.silenceLimit.toNat := by decide +kernel

theorem witness_TimeRequestsAnswer :
    Met .setSilence [0x00, 0x00, 0x00, 0x00] ready (fun _ r => (wordAt r.params 0).toNat = 0) ∧
    Met .setSilence [0x00, 0x00, 0x00, 0x3C] ready (fun _ r => (wordAt r.params 0).toNat = 60) ∧
    Met .setSilence [0x00, 0x09, 0x3A, 0x80] ready (fun _ r => (wordAt r.params 0).toNat = 604800) ∧
    Met .setSilence [0x00, 0x00, 0x00, 0x01] ready (fun _ r => (wordAt r.params 0).toNat = 1) ∧
    Met .setSilence [0x00, 0x00, 0x00, 0x3B] ready (fun _ r => (wordAt r.params 0).toNat = 59) ∧
    Met .setSilence [0x00, 0x09, 0x3A, 0x81] ready (fun _ r => 604800 < (wordAt r.params 0).toNat) ∧
    Met .setGrace [0xFF, 0xFF] ready (fun _ r => (halfAt r.params 0).toNat = 65535) ∧
    Met .setTime [0xFF, 0xFF, 0xFF, 0xFF] ready (fun _ _ => True) ∧
    Met .readTime [] ready (fun _ _ => True) := by
  and_intros <;> exact met (by decide +kernel)

/-- The head of a list with another account, the other account, and one that is not on the list. -/
theorem witness_TimeListsKeepTheirOrder :
    let v := { ready.supv with
      uptime := 9
      silence := [{ slot := 5, time := 3 }, { slot := 7, time := 4 }]
      grace := [{ slot := 1023, time := 3 }, { slot := 7, time := 4 }]
      silenceMark := true
      graceMark := true }
    v.joinSilence 5 = { v with
      silence := [{ slot := 7, time := 4 }, { slot := 5, time := 9 }], silenceMark := false } ∧
    v.joinSilence 7 = { v with
      silence := [{ slot := 5, time := 3 }, { slot := 7, time := 9 }] } ∧
    v.leaveGrace 1023 = { v with grace := [{ slot := 7, time := 4 }], graceMark := false } ∧
    v.leaveGrace 0 = v ∧ v.silence = [] ++ { slot := 5, time := 3 } :: [{ slot := 7, time := 4 }] := by
  decide +kernel

/-- LISTENING with and without the wait for a high line; a frame at the last moment before and at the
first after its gap; the first and the twelfth character arriving; OFF; MUTED. -/
theorem witness_ReceptionFollowsTheReceiver :
    ((line []).receiver = .listening ∧ (line []).awaitHigh = false) ∧
    ({ line [] with awaitHigh := true }.awaitHigh = true ∧ (line []).rate.bitTicks ≤ 20 ∧
      19 < (line []).rate.bitTicks) ∧
    ({ line [] with receiver := .assembling [0xD1] (.gap 200) }.receiver =
        .assembling [0xD1] (.gap 200) ∧
      600 ≤ 200 + 2 * (line []).rate.charTicks ∧ 200 + 2 * (line []).rate.charTicks < 601) ∧
    ((line []).startBit 7 0).receiver = .assembling [] (.character 7) ∧
    (eleven.receiver = .assembling (frame.take 11) (.character 2000) ∧
      ¬ (frame.take 11).length < 11) ∧
    Line.reset.receiver = .off ∧ { line [] with receiver := .muted }.receiver = .muted := by
  decide +kernel

/-- A frame with its good last byte and with another; a full line; a reply frame's kind; a line without a
frame. -/
theorem witness_ReportFrameIsChecked :
    (eleven.receiver = .assembling (frame.take 11) (.character 2000) ∧
      (frame.take 11).length = 11 ∧ (line []).receiver = .listening) ∧
    (crc16 (frame.take 10) = halfAt frame 10 ∧ byteAt frame 0 = 0xD1 ∧
      byteAt frame 11 ≠ byteAt frame 11 + 1) ∧
    (let bad := [0xD2] ++ (frame.drop 1).take 9
     let sent := bad ++ bytes16 (crc16 bad)
     crc16 (sent.take 10) = halfAt sent 10 ∧ byteAt sent 0 ≠ 0xD1) ∧
    ({ eleven with slots := [report 1 1, report 2 2] }.slots.length = 2 ∧
      { eleven with slots := [report 1 1] }.slots.length = 1) := by decide +kernel

/-- A report IN_TABLE with a result. -/
def inTable (late discard : Bool) (result : Option ReplyContent := some .test) : RxSlot :=
  { report 1 1 with state := .inTable result, late := late, discard := discard }

/-- A deadline that is reached, one that is a tick away, a READY, a SENDING and an EMPTY slot. A result
for a slot marked for discard, the no-reply mark, a result on a MONITOR line, a late and a timely one;
each step from a state of these does as the statement says. -/
theorem witness_DeadlineAndResultActOnASlot :
    ((line [report 1 1]).slots = [] ++ report 1 1 :: [] ∧ (report 1 1).deadline ≤ 8680 ∧
      8679 < (report 1 1).deadline ∧ (report 1 1).state = .waiting) ∧
    ((readySlot .second).isReady = true ∧
      (line [readySlot, readySlot .second]).slots = [readySlot] ++ readySlot .second :: []) ∧
    { report 1 1 with state := .sending { command := .on, reason := .normal, balanceClass := 0 }
      }.isSending = true ∧
    (line [report 1 1]).slots.length ≤ slotIndex .younger ∧
    ((line [inTable true true]).slots = [] ++ inTable true true :: [] ∧
      (inTable true true).state = .inTable (some .test) ∧ (inTable true true).discard = true ∧
      (inTable false false none).state = .inTable none ∧
      { line [inTable false false] with mode := .monitor }.mode = .monitor ∧
      (line [readySlot, inTable true false]).takeResult =
        { line [readySlot] with counters := { LineCounters.zero with lateReplies := 1 } } ∧
      (line [readySlot, inTable false false]).takeResult =
        line [readySlot, { report 1 1 with state := .ready .test .second }]) := by decide +kernel

/-- The reply may start at the end of the turnaround and at the deadline, a tick after which the slot is
dropped; a tick earlier, or beside a frame in progress, nothing starts; it is sent at the end of its
thirteenth character and not a tick earlier. -/
theorem witness_ReplyStartsAndIsSent :
    ((line [readySlot]).slots = [] ++ readySlot :: [] ∧ (line [readySlot]).transmitter = none ∧
      (line [readySlot]).mode ≠ .disabled ∧ (line [readySlot]).receiver.isAssembling = false ∧
      readySlot.ended + 2 * (line [readySlot]).rate.charTicks = 1400 ∧ 1400 ≤ readySlot.deadline) ∧
    (let l := (after (.replyStart 0 1400) (lined 0 (line [readySlot]))).lines[0]
     l.transmitter.map (fun x => x.endsAt) = some 4000 ∧ l.slots.map RxSlot.isSending = [true] ∧
       l.replyDone 3999 = l ∧ (1400 + 13 * l.rate.charTicks = 4000)) ∧
    (let late := (after (.replyStart 0 (readySlot.deadline + 1)) (lined 0 (line [readySlot]))).lines[0]
     late.slots = [] ∧ late.counters.lateReplies = 1 ∧ late.transmitter = none) ∧
    (line [readySlot]).startReply 1399 = line [readySlot] ∧
    { line [readySlot] with receiver := .assembling [] (.character 1300) }.receiver.isAssembling =
      true := by
  decide +kernel

theorem witness_LineRequestsAnswer :
    Met .lineConfig [0x03, 0x00, 0x09] ready (fun s r => (byteAt r.params 0).toNat = (3 : LineNo).val ∧
      byteAt r.params 1 = Rate.code .r2400 ∧ (byteAt r.params 2).toNat = 9 ∧
      s.lines[3].mode = .disabled) ∧
    Met .lineConfig [0x00, 0x03, 0x05] ready (fun _ r => (byteAt r.params 2).toNat = 5) ∧
    Met .lineConfig [0x00, 0x01, 0xFA] (lined 0 (line [])) (fun s r =>
      (byteAt r.params 2).toNat = 250 ∧ s.lines[0].mode ≠ .disabled) ∧
    Met .lineConfig [0x04, 0x01, 0x28] ready (fun _ r => 3 < (byteAt r.params 0).toNat) ∧
    Met .lineConfig [0x00, 0x04, 0x28] ready (fun _ r => 3 < (byteAt r.params 1).toNat) ∧
    Met .lineConfig [0x00, 0x01, 0x04] ready (fun _ r => (byteAt r.params 2).toNat < 5) ∧
    Met .lineConfig [0x00, 0x01, 0xFB] ready (fun _ r => 250 < (byteAt r.params 2).toNat) ∧
    Met .lineConfig [0x00, 0x00, 0x08] ready (fun _ r =>
      byteAt r.params 1 = 0x00 ∧ (byteAt r.params 2).toNat < 9) ∧
    Met .lineStatus [0x03] ready (fun _ r => (byteAt r.params 0).toNat = (3 : LineNo).val) ∧
    Met .lineStatus [0x04] ready (fun _ r => 3 < (byteAt r.params 0).toNat) ∧
    Met .lineClear [0x00] ready (fun _ r => (byteAt r.params 0).toNat = (0 : LineNo).val) ∧
    Met .lineClear [0x04] ready (fun _ r => 3 < (byteAt r.params 0).toNat) := by
  and_intros <;> exact met (by decide +kernel)

theorem witness_LineModeRequestChangesTheMode :
    Met .lineMode [0x00, 0x02] (lined 0 (line [])) (fun s r =>
      byteAt r.params 1 = LineMode.code .active ∧ s.lines[0].mode = .active) ∧
    Met .lineMode [0x00, 0x00] (lined 0 (line [])) (fun s r =>
      byteAt r.params 1 = LineMode.code .disabled ∧ s.lines[0].mode ≠ .disabled) ∧
    (line [inTable false false, readySlot]).slots.filterMap RxSlot.disable =
      [inTable false true] ∧
    Met .lineMode [0x03, 0x03] ready (fun s r =>
      byteAt r.params 1 = LineMode.code .echo ∧ s.lines[3].mode = .disabled) ∧
    Met .lineMode [0x00, 0x01] (lined 0 (line [])) (fun s r =>
      byteAt r.params 1 = LineMode.code .monitor ∧ s.lines[0].mode = .active) ∧
    Met .lineMode [0x04, 0x00] ready (fun _ r => 3 < (byteAt r.params 0).toNat) ∧
    Met .lineMode [0x00, 0x04] ready (fun _ r => 3 < (byteAt r.params 1).toNat) := by
  and_intros
  all_goals first
    | exact met (by decide +kernel)
    | decide +kernel

/-- Line 0 granted for a WAITING report behind a READY one. -/
def granted (sequence : Byte) (s : State) : State :=
  lined 0 (line [readySlot, report sequence 50]) s

theorem granted_grants (sequence : Byte) (s : State) (h : s.port.opened = true)
    (hl : s.lines = ready.lines := by rfl) :
    (granted sequence s).GrantsReport 0 [readySlot] (report sequence 50) [] := by
  refine ⟨?_, ?_, rfl, ?_⟩
  · have : (granted sequence s).claims (.line 0) = true := by
      simp [State.claims, granted, lined, line, report, readySlot, RxSlot.isWaiting]
    have ho : (granted sequence s).port.opened = true := h
    have hf : (granted sequence s).tableBusy = false := by
      simp [State.tableBusy_eq_false, granted, lined, hl, Fin.forall_fin_succ, line, report,
        readySlot, RxSlot.isInTable, ready, State.reset, Line.reset]
    unfold State.granted
    rw [if_pos (by rw [ho, hf]; rfl)]
    have hr : (granted sequence s).rotation = .line 0 := rfl
    rw [hr]
    simp [Claimant.turns, this]
  · simp [granted, lined, line]
  · simp [readySlot]

/-- A discovery list of `n` entries, none of them the meter of slot 005h. -/
def listed (n : Nat) (s : State := ready) : State :=
  { s with discovery := { s.discovery with
      entries := (List.range n).map fun k =>
        { identity := BitVec.ofNat 48 (k + 1), line := 0, firstSeen := 0, sightings := 1
          lastSequence := 0 } } }

/-- An unknown meter: the list with seven and with eight entries, and a listed meter. -/
theorem witness_UnknownReportIsAnsweredByPolicy :
    (granted 0x10 (listed 8)).GrantsReport 0 [readySlot] (report 0x10 50) [] ∧
    ((granted 0x10 (listed 8)).index.lookup (report 0x10 50).identity = none ∧
      validIdentity (report 0x10 50).identity = true ∧
      (granted 0x10 (listed 8)).discovery.entries.length = 8 ∧
      (granted 0x10 (listed 7)).discovery.entries.length = 7 ∧
      (∀ e ∈ (listed 8).discovery.entries, e.identity ≠ (report 0x10 50).identity)) ∧
    validIdentity 0 = false :=
  ⟨granted_grants _ _ rfl, by decide +kernel, by decide⟩

theorem witness_DuplicateReportIsNotCharged :
    (granted 0x0F (one account5)).GrantsReport 0 [readySlot] (report 0x0F 50) [] ∧
    ((granted 0x0F (one account5)).index.lookup (report 0x0F 50).identity = some 5 ∧
      (slot5 (granted 0x0F (one account5))).lastSequence = some (report 0x0F 50).sequence) :=
  ⟨granted_grants _ _ rfl, by decide +kernel⟩

/-- A successor, a gap and a first report. -/
theorem witness_ReportTakenIsChargedAndAnswered :
    (granted 0x10 (one account5)).GrantsReport 0 [readySlot] (report 0x10 50) [] ∧
    ((granted 0x10 (one account5)).index.lookup (report 0x10 50).identity = some 5 ∧
      (slot5 (granted 0x10 (one account5))).lastSequence ≠ some (report 0x10 50).sequence ∧
      (slot5 (granted 0x11 (one account5))).lastSequence ≠ some (report 0x11 50).sequence ∧
      (slot5 (granted 0x00 (one { account5 with lastSequence := none }))).lastSequence ≠
        some (report 0x00 50).sequence) ∧
    (sequenceCase (some 0xFF) 0x00 = .successor ∧ sequenceCase (some 0xFF) 0xFF = .duplicate ∧
      sequenceCase (some 0xFF) 0x01 = .gap ∧ sequenceCase (some 0x00) 0xFF = .gap) :=
  ⟨granted_grants _ _ rfl, by decide +kernel, by decide⟩

/-- Balances at the hold level, one above it, and at the low level; a low level at the hold level. -/
theorem witness_ReplyContentFollowsTheAccount :
    let t := (one account5).tariff
    (t.classOf account5).hold.toInt = 0 ∧ (t.effectiveLow account5).toInt = 2000 ∧
    { account5 with balance := 0 }.balance.toInt = 0 ∧
    { account5 with balance := 1 }.balance.toInt = 1 ∧
    { account5 with balance := 2000 }.balance.toInt = 2000 ∧
    (t.effectiveLow { account5 with lowOverride := some 0 }).toInt = 0 := by decide +kernel

/-- A state with the snapshot SWEEPING at a cursor, the sweep first in turn. -/
def sweeping (cursor : Nat) : State :=
  { one account5 with
    rotation := .sweep
    snapshot := { Snapshot.reset with state := .sweeping, cursor := cursor } }

theorem witness_SweepStepCapturesSixteenSlots :
    (sweeping 0).granted = some .sweep ∧ (sweeping 0).snapshot.cursor + 16 ≤ 1024 ∧
      (sweeping 1008).granted = some .sweep ∧ (sweeping 1008).snapshot.cursor + 16 = 1024 := by
  decide +kernel

/-- The part with its snapshot in a state. -/
def shot (st : SnapshotState) : State :=
  { one account5 with snapshot := { Snapshot.reset with state := st } }

theorem witness_SnapshotRequestsAnswer :
    Met .snapshotTake [] (shot .idle) (fun s _ => s.snapshot.state = .idle) ∧
    Met .snapshotTake [] (shot .sweeping) (fun s _ => s.snapshot.state ≠ .idle) ∧
    Met .snapshotTotals [] (shot .ready) (fun s _ => s.snapshot.state = .ready) ∧
    Met .snapshotTotals [] (shot .sweeping) (fun s _ => s.snapshot.state = .sweeping) ∧
    Met .snapshotTotals [] (shot .idle) (fun s _ => s.snapshot.state = .idle) ∧
    Met .snapshotRelease [] (shot .ready) (fun _ _ => True) := by
  and_intros <;> exact met (by decide +kernel)

theorem witness_SnapshotReadCapturesOnDemand :
    Met .snapshotRead [0x04, 0x00] ready (fun _ r => 1023 < (halfAt r.params 0).toNat) ∧
    Met .snapshotRead [0x03, 0xFF] (shot .idle) (fun s r =>
      (halfAt r.params 0).toNat = (1023 : Slot).val ∧ s.snapshot.state = .idle) ∧
    Met .snapshotRead [0x00, 0x05] (shot .sweeping) (fun s r =>
      (halfAt r.params 0).toNat = (5 : Slot).val ∧ s.snapshot.state = .sweeping ∧
      (s.snapshot.shadow 5).captured = false) ∧
    Met .snapshotRead [0x00, 0x00] (shot .ready) (fun s r =>
      (halfAt r.params 0).toNat = (0 : Slot).val ∧ s.snapshot.state = .ready) := by
  and_intros <;> exact met (by decide +kernel)

/-- `claiming` with slot 005h dirty. -/
def dirty (cursor : Nat) : State :=
  { claiming .account .dirty cursor with
    table := [(5, { image := account5, silent := false, pending := 0, dirty := true })] }

theorem witness_CaptGrantsFillTheLatch :
    ((claiming .settings .full 2).granted = some .capt ∧
      (claiming .settings .full 2).store.claim = some .settings) ∧
    ((claiming .account .full 65).granted = some .capt ∧
      (claiming .account .full 65).store.cursor = (63 : Fin 64).val + 2) ∧
    (claiming .account .full 66).store.cursor = 66 ∧
    ((dirty 2).granted = some .capt ∧ (dirty 2).store.mode = .dirty ∧
      (dirty 2).store.cursor ≤ (0 : Fin 64).val + 2 ∧
      ((dirty 2).account (pageSlot 0 5)).dirty = true) ∧
    ((dirty 3).store.rewrite = [] ∧ ∀ k : Fin 64, 3 ≤ k.val + 2 → ∀ j : Fin 16,
      ((dirty 3).account (pageSlot k j)).dirty = false) := by decide +kernel

theorem witness_PageIsErasedProgrammedVerified :
    ((working 65 .erasing).store.state = .checkpoint ∧
      (working 65 .erasing).store.inProgress = some { page := 65, phase := .erasing }) ∧
    (working 1 .programming).store.inProgress = some { page := 1, phase := .programming } ∧
    ((working 0 .verifying).store.inProgress = some { page := 0, phase := .verifying } ∧
      (working 0 .verifying).store.latch = .written (.header .zero) 0 1 true) ∧
    (working 65 .verifying 66).store.cursor = 66 ∧ (working 64 .verifying 65).store.cursor < 66 := by
  decide +kernel

/-- The part with its store in a state. -/
def stored (st : StoreState) : State := { ready with store := { ready.store with state := st } }

theorem witness_CheckpointRequestsAnswer :
    Met .checkpoint [0x00] (stored .idle) (fun s r =>
      byteAt r.params 0 = 0x00 ∧ s.store.state = .idle) ∧
    Met .checkpoint [0x01] (stored .wiping) (fun s r =>
      byteAt r.params 0 = 0x01 ∧ s.store.state = .wiping) ∧
    Met .checkpoint [0x02] (stored .idle) (fun _ r => 0x01 < (byteAt r.params 0).toNat) ∧
    Met .storeStatus [] (stored .idle) (fun _ _ => True) ∧
    Met .checkpointAbort [] (working 1 .erasing) (fun s _ => s.store.state = .checkpoint ∧
      s.store.inProgress = some { page := 1, phase := .erasing }) ∧
    Met .checkpointAbort [] (stored .checkpoint) (fun s _ => s.store.state = .checkpoint ∧
      s.store.inProgress = none) ∧
    Met .checkpointAbort [] (working 0 .erasing) (fun s _ => s.store.state = .checkpoint ∧
      s.store.inProgress = some { page := 0, phase := .erasing }) ∧
    Met .checkpointAbort [] (stored .idle) (fun s _ => s.store.state = .idle) ∧
    Met .checkpointAbort [] (stored .aborting) (fun s _ => s.store.state = .aborting) ∧
    Met .checkpointAbort [] (stored .wiping) (fun s _ => s.store.state = .wiping) := by
  and_intros <;> exact met (by decide +kernel)

theorem witness_WipeErasesEveryPage :
    Met .storeWipe [] (stored .idle) (fun s _ => s.store.state = .idle) ∧
    Met .storeWipe [] (stored .wiping) (fun s _ => s.store.state ≠ .idle) ∧
    (65 : Fin 66).val = (64 : Fin 66).val + 1 ∧ (65 : Fin 66).val = 65 := by
  refine ⟨met (by decide +kernel), met (by decide +kernel), rfl, rfl⟩

/-- A port with `n` bytes in its request queue. -/
def filled (n : Nat) (st : PortState) (c : FaultCause) : Port :=
  { ready.port with state := st, cause := c, requests := List.replicate n 0x11 }

theorem witness_RequestWriteFillsTheQueue :
    ((filled 255 .ready .none).state = .ready ∧ (filled 255 .ready .none).requests.length + 1 ≤ 256) ∧
    (ready.spiOf 0x01 (whole [0x20]) = some { first := 0x01, status := ready.statusBytes, ended := false } ∧
      { ready with port := filled 192 .ready .none }.rdy = true ∧
      { ready with port := filled 193 .ready .none }.rdy = false) ∧
    (256 < (filled 256 .start .none).requests.length + 1 ∧
      (filled 256 .start .none).requests.length ≤ 256 ∧ (filled 256 .start .none).cause = .none) ∧
    (filled 0 .fault .badLength).state = .fault ∧ (filled 0 .start .overflow).cause = .overflow := by
  decide +kernel

/-- A port within a transaction. -/
def within (first : Byte) (ended : Bool) : State :=
  { ready with port := { ready.port with
      spi := some { first := first, status := ready.statusBytes, ended := ended } } }

/-- Each transaction opened and gone on with; one that a reset ended; pieces that none takes. -/
theorem witness_TransactionsActOnThePort :
    let onward : SpiPiece := { opens := false, received := [], ends := none }
    let opening : SpiPiece := reading 1
    ((ready.spiOf 0x02 opening).isSome = true ∧ (ready.spiOf 0x03 opening).isSome = true ∧
      (ready.spiOf 0x04 opening).isSome = true ∧ (ready.spiOf 0x05 opening).isSome = true) ∧
    ((within 0x02 false).spiOf 0x02 onward = (within 0x02 false).port.spi ∧
      (within 0x03 false).spiOf 0x03 onward = (within 0x03 false).port.spi ∧
      (within 0x04 false).spiOf 0x04 onward = (within 0x04 false).port.spi) ∧
    ((within 0x01 true).spiOf 0x01 onward = (within 0x01 true).port.spi ∧
      (within 0x02 true).spiOf 0x02 onward = (within 0x02 true).port.spi ∧
      (within 0x03 true).spiOf 0x03 onward = (within 0x03 true).port.spi) ∧
    (ready.spiOf 0x01 onward = none ∧ (within 0x02 false).spiOf 0x03 onward = none ∧
      (within 0x04 false).spiOf 0x04 opening = none ∧
      (after (.pinReset .powerApplied .blank) ready).spiOf 0x02 opening = none) ∧
    ((0x00 : Byte) ∉ [(0x01 : Byte), 0x02, 0x03, 0x04] ∧
      (0x05 : Byte) ∉ [(0x01 : Byte), 0x02, 0x03, 0x04]) := by decide +kernel

/-- The request queue with a header, and the response queue with 64 and with 63 free bytes. -/
def headed (bytes : List Byte) (responses : Nat) : Port :=
  { ready.port with requests := bytes, responses := List.replicate responses 0x00 }

/-- The executor's codes and lengths are those of R192. -/
theorem test_requestTable :
    requestTable = Req.all.map fun q => (q, q.code, q.lengths) := by decide

theorem witness_ExecutorTakesOrFaults :
    ((headed [0x2F, 0x5B, 0x00] 448).state = .ready ∧ (headed [0x2F, 0x5B, 0x00] 448).executing = none ∧
      (headed [0x2F, 0x5B, 0x00] 448).responses.length + 64 = 512 ∧
      ∀ row ∈ requestTable, row.2.1 ≠ byteAt (headed [0x2F, 0x5B, 0x00] 448).requests 0) ∧
    ((.enrol, 0x10, 13, 19) ∈ requestTable ∧ (.partReset, 0x7F, 1, 1) ∈ requestTable) ∧
    ((headed [0x7F, 0x5B, 0x01] 0).requests.length < 3 + 1 ∧
      (headed [0x7F, 0x5B, 0x01, 0x00] 0).requests.length = 3 + 1) ∧
    (512 < (headed [] 449).responses.length + 64 ∧ (headed [0x7F, 0x5B] 0).requests.length < 3) ∧
    ((headed [] 507).responses.length + 5 = 512 ∧ 512 < (headed [] 508).responses.length + 5) := by
  decide +kernel

theorem witness_PartIdentAnswers : Met .partIdent [] ready (fun _ _ => True) := met trivial

/-- The longest result, and the greatest count of each width. -/
theorem witness_FormatsFollowTheTables :
    (Answer.ok (List.replicate 60 0x00)).bytes.length = 60 ∧ num8 255 = bytesOf 1 255 ∧
      num16 65535 = bytesOf 2 65535 ∧ responseBytes 0x5A 0x10 (.ok [0x01]) =
        [0x5A, 0x10, 0x00, 0x01, 0x01] := by decide +kernel

/-! ### Accounts -/

/-- The ENROL of chapter 11 takes slot 000h of an empty table. -/
theorem witness_EnrolMakesAnAccount :
    (serve .enrol enrolParams).Serving .enrol (request .enrol enrolParams) ∧
    enrolParamsOk enrolParams ∧ (byteAt enrolParams 6).toNat = (2 : ClassNo).val ∧
    (byteAt enrolParams 7).toNat = (1 : GroupNo).val ∧
    ready.index.lookup (identityAt enrolParams 0) = none ∧ ready.EnrolTakes enrolParams 0 ∧
    (ready.index.insert? (identityAt enrolParams 0) 0).isSome = true := by
  refine ⟨serve_serving _ _ _, ?_, by decide +kernel, by decide +kernel, by decide +kernel, ?_,
    by decide +kernel⟩
  · unfold enrolParamsOk; decide +kernel
  · unfold State.EnrolTakes; decide +kernel

/-- A table with the same account in every slot. -/
def full : State :=
  { ready with table := (List.finRange 1024).map fun i =>
      (i, { image := account5, silent := false, pending := 0, dirty := false }) }

theorem full_account (l : List Slot) (r : Record) (i : Slot) (h : i ∈ l) :
    Sparse.get Record.free (l.map fun j => (j, r)) i = r := by
  induction l with
  | nil => cases h
  | cons j js ih =>
    simp only [List.map_cons, Sparse.get]
    split
    · rfl
    · next hj =>
      rcases List.mem_cons.mp h with h | h
      · exact absurd h.symm hj
      · exact ih h

/-- An index whose bucket of the ENROL's identity is full, with a full spill list. -/
def crowded : Index where
  buckets := [(bucketOf (identityAt enrolParams 0), Vector.replicate 4 (some { identity := 1, slot := 1 }))]
  spill := List.replicate 16 { identity := 1, slot := 1, bucket := 0 }

/-- The parameters of an ENROL that names a slot, with a presence byte. -/
def named (slot : List Byte) : List Byte := enrolParams.take 12 ++ [0x01] ++ slot

theorem witness_EnrolIsRefusedInOrder :
    (¬enrolParamsOk (enrolParams.take 16) ∧ ¬enrolParamsOk (named [0x04, 0x00]) ∧
      ¬enrolParamsOk (List.replicate 6 0xFF ++ enrolParams.drop 6)) ∧
    ((one account5).index.lookup account5.identity = some 5) ∧
    (enrolParamsOk (named [0x00, 0x05]) ∧ (halfAt (named [0x00, 0x05]) 13).toNat = (5 : Slot).val ∧
      (one account5).isFree 5 = false) ∧
    (∀ i, full.isFree i = false) ∧
    (ready.EnrolTakes enrolParams 0 ∧ crowded.insert? (identityAt enrolParams 0) 0 = none) := by
  refine ⟨?_, by decide +kernel, ?_, ?_, ?_, by decide +kernel⟩
  · unfold enrolParamsOk; decide +kernel
  · unfold enrolParamsOk; decide +kernel
  · intro i
    have : full.account i = { image := account5, silent := false, pending := 0, dirty := false } := by
      unfold State.account full
      generalize hl : List.finRange 1024 = l
      exact full_account l _ i (hl ▸ List.mem_finRange i)
    unfold State.isFree
    rw [this]
    rfl
  · unfold State.EnrolTakes; decide +kernel

theorem witness_TableRequestsAnswer :
    Met .accountRead [0x00, 0x05] (one account5) (fun s r =>
      (halfAt r.params 0).toNat = (5 : Slot).val ∧ s.isFree 5 = false) ∧
    Met .find (List.replicate 6 0x00) ready (fun _ r => identityAt r.params 0 = 0) ∧
    Met .find (List.replicate 6 0xFF) ready (fun _ r => identityAt r.params 0 = 0xFFFFFFFFFFFF) ∧
    Met .find [0x00, 0x00, 0x00, 0x00, 0x00, 0x01] ready (fun s r =>
      s.index.lookup (identityAt r.params 0) = none ∧ identityAt r.params 0 ≠ 0) ∧
    Met .find (bytes48 account5.identity) (one account5) (fun s r =>
      s.index.lookup (identityAt r.params 0) = some 5) ∧
    Met .tableStatus [] (one account5) (fun s _ => s.isFree 0 = true) ∧
    Met .highwaterReset [] (one account5) (fun _ _ => True) := by
  and_intros <;> exact met (by decide +kernel)

theorem witness_SlotRequestsAreRefusedInOrder :
    Met .purge [0x04, 0x00] ready (fun _ r => 1023 < (halfAt r.params 0).toNat) ∧
    Met .retire [0x03, 0xFF] ready (fun s r =>
      (halfAt r.params 0).toNat = (1023 : Slot).val ∧ s.isFree 1023 = true) ∧
    Met .setClass [0x00, 0x05, 0x10] (one account5) (fun _ r => ¬(byteAt r.params 2).toNat ≤ 15) ∧
    Met .setGroup [0x00, 0x05, 0x08] (one account5) (fun _ r => ¬(byteAt r.params 2).toNat ≤ 7) ∧
    Met .setLow [0x00, 0x05, 0x01] (one account5) (fun _ r =>
      byteAt r.params 2 = 0x01 ∧ r.params.length = 3) ∧
    Met .adjust [0x00, 0x05, 0x00, 0x00, 0x00, 0x00] (one account5) (fun _ r =>
      (wordAt r.params 2).toNat = 0) ∧
    Met .noticeClear [0x00, 0x05, 0x80] (one account5) (fun _ r => ¬(byteAt r.params 2).toNat ≤ 127) ∧
    Met .suspend [0x00, 0x05] (one { account5 with state := .closing }) (fun s r =>
      (halfAt r.params 0).toNat = (5 : Slot).val ∧ (s.account 5).image.state = .closing) := by
  and_intros <;> exact met (by decide +kernel)

/-- Sums at both ends of the range of a balance, and one past each. -/
theorem witness_AdjustChangesTheBalance :
    Met .adjust [0x00, 0x05, 0x7F, 0xFF, 0xFF, 0xFF] (one { account5 with balance := 0 }) (fun s r =>
      (slot5 s).balance.toInt + (wordAt r.params 2).toInt = (0x7FFFFFFF : Credit).toInt) ∧
    Met .adjust [0x00, 0x05, 0x7F, 0xFF, 0xFF, 0xFF] (one { account5 with balance := 1 }) (fun s r =>
      2147483647 < (slot5 s).balance.toInt + (wordAt r.params 2).toInt) ∧
    Met .adjust [0x00, 0x05, 0x80, 0x00, 0x00, 0x00] (one { account5 with balance := 0 }) (fun s r =>
      (slot5 s).balance.toInt + (wordAt r.params 2).toInt = (0x80000000 : Credit).toInt) ∧
    Met .adjust [0x00, 0x05, 0x80, 0x00, 0x00, 0x00]
      (one { account5 with balance := BitVec.ofInt 32 (-1) }) (fun s r =>
      (slot5 s).balance.toInt + (wordAt r.params 2).toInt < -2147483648) := by
  and_intros <;> exact met (by decide +kernel)

theorem witness_SettingRequestsEvaluate :
    Met .setClass [0x00, 0x05, 0x0F] (one account5) (fun s r =>
      (byteAt r.params 2).toNat = (15 : ClassNo).val ∧ (slot5 s).state ≠ .closing ∧
      s.isFree 5 = false) ∧
    Met .setLow [0x00, 0x05, 0x00] (one account5) (fun _ r =>
      byteAt r.params 2 = 0x00 ∧ r.params.length = 3) ∧
    Met .setLow [0x00, 0x05, 0x01, 0x80, 0x00, 0x00, 0x00] (one account5) (fun _ r =>
      byteAt r.params 2 = 0x01 ∧ r.params.length = 7) ∧
    Met .unsuspend [0x00, 0x05] (one { account5 with state := .closing, suspended := true })
      (fun s _ => (slot5 s).state = .closing ∧ (slot5 s).suspended = true) := by
  and_intros <;> exact met (by decide +kernel)

theorem witness_SuspendAndRetireChangeOneAccount :
    Met .suspend [0x00, 0x05] (one { account5 with suspended := true }) (fun s _ =>
      (slot5 s).suspended = true ∧ (slot5 s).state ≠ .closing ∧ s.isFree 5 = false) ∧
    Met .suspend [0x00, 0x05] (one account5) (fun s _ => (slot5 s).suspended = false) ∧
    Met .unsuspend [0x00, 0x05] (one { account5 with state := .closing }) (fun s _ =>
      (slot5 s).state = .closing ∧ (slot5 s).suspended = false) ∧
    Met .retire [0x00, 0x05] (one { account5 with state := .grace }) (fun s _ =>
      (slot5 s).state ≠ .closing ∧ s.isFree 5 = false) := by
  and_intros <;> exact met (by decide +kernel)

theorem witness_SetGroupMovesTheCounts :
    Met .setGroup [0x00, 0x05, 0x02] (one account5) (fun s r => (slot5 s).group = 2 ∧
      (byteAt r.params 2).toNat = (2 : GroupNo).val ∧ s.isFree 5 = false) ∧
    Met .setGroup [0x00, 0x05, 0x07] (one account5) (fun s _ => (slot5 s).group ≠ 7 ∧
      s.notices.groups[7].state = .quiet ∧ s.notices.groups[7].eligible = false) := by
  and_intros <;> exact met (by decide +kernel)

theorem witness_PurgeFreesTheSlot :
    Met .purge [0x00, 0x05] (one account5 0x7F) (fun s r =>
      (halfAt r.params 0).toNat = (5 : Slot).val ∧ s.isFree 5 = false) := met (by decide +kernel)

/-- An empty way, a full bucket with 15 and with 16 spill entries, an entry in a way with and without
a spill entry of its bucket, an entry in the spill list, and one that is nowhere. -/
theorem witness_IndexPlacesAndRemovesEntries :
    let id := identityAt enrolParams 0
    let b := bucketOf id
    let here : SpillEntry := { identity := id, slot := 9, bucket := b }
    let spilled : Index := { crowded with spill := [here] }
    let inWay : Index := (crowded.setWay b 3 (some { identity := id, slot := 9 }))
    ((one account5).index.bucket (bucketOf account5.identity))[(1 : Fin 4)] = none ∧
    ((∀ w : Fin 4, (crowded.bucket b)[w] ≠ none) ∧ crowded.spill.length = 16 ∧
      (crowded.spill.drop 1).length = 15) ∧
    ((inWay.bucket b)[(3 : Fin 4)] = some { identity := id, slot := 9 } ∧
      ∀ x ∈ inWay.spill, x.bucket ≠ b) ∧
    (spilled.spill = [] ++ here :: [] ∧ here.bucket = b ∧
      ∀ w : Fin 4, ∀ e ∈ (crowded.bucket b)[w], e.identity ≠ id) := by decide +kernel

theorem witness_TariffRequestsAnswer :
    Met .tariffStage ([0x0F] ++ List.replicate 20 0xFF) ready (fun _ r =>
      (byteAt r.params 0).toNat = (15 : ClassNo).val) ∧
    Met .tariffStage ([0x10] ++ List.replicate 20 0x00) ready (fun _ r =>
      15 < (byteAt r.params 0).toNat) ∧
    Met .tariffRead [0x00, 0x00] ready (fun _ r => byteAt r.params 1 = 0x00) ∧
    Met .tariffRead [0x0F, 0x01] ready (fun _ r => byteAt r.params 1 = 0x01) ∧
    Met .tariffRead [0x0F, 0x02] ready (fun _ r => 1 < (byteAt r.params 1).toNat) ∧
    Met .tariffCommit [] (one account5) (fun s _ => ∀ c : ClassNo,
      s.tariff.staged[c].hold.toInt < s.tariff.staged[c].resume.toInt) ∧
    Met .tariffCommit [] { ready with tariff := { ready.tariff with
      staged := ready.tariff.staged.set 15 { class4 with resume := 0 } } } (fun s _ =>
        s.tariff.staged[(15 : ClassNo)].resume.toInt ≤ s.tariff.staged[(15 : ClassNo)].hold.toInt ∧
        ∀ d : ClassNo, d < 15 →
          s.tariff.staged[d].hold.toInt < s.tariff.staged[d].resume.toInt) ∧
    Met .tariffDiscard [] ready (fun _ _ => True) ∧
    Met .setBand [0x03] ready (fun _ r => (byteAt r.params 0).toNat = (3 : Fin 4).val) ∧
    Met .setBand [0x04] ready (fun _ r => 3 < (byteAt r.params 0).toNat) := by
  and_intros <;> exact met (by decide +kernel)

theorem witness_DiscoveryRequestsAnswer :
    Met .setUnknownPolicy [0x02] ready (fun _ r => byteAt r.params 0 = UnknownPolicy.code .quiet) ∧
    Met .setUnknownPolicy [0x03] ready (fun _ r => 2 < (byteAt r.params 0).toNat) ∧
    Met .discoveryTake [] ready (fun s _ => s.discovery.entries = []) ∧
    Met .discoveryTake [] (listed 8) (fun s _ => s.discovery.entries.length = 8) ∧
    Met .discoveryClear [] (listed 8) (fun _ _ => True) := by
  and_intros <;> exact met (by decide +kernel)

/-! ### Notices -/

theorem witness_GroupRequestsAnswer :
    Met .groupConfig [0x07, 0x7F, 0x01] ready (fun _ r => (byteAt r.params 0).toNat = (7 : GroupNo).val ∧
      (byteAt r.params 1).toNat = (0x7F : KindSet).toNat ∧
      byteAt r.params 2 = Priority.code .high) ∧
    Met .groupConfig [0x02, 0x01, 0x00] (raised account5 0x01 0 .quiet) (fun s _ =>
      s.notices.groups[2].state = .quiet ∧ 0 < s.notices.groups[2].count[0]) ∧
    Met .groupConfig [0x08, 0x7F, 0x01] ready (fun _ r => 7 < (byteAt r.params 0).toNat) ∧
    Met .groupConfig [0x07, 0x80, 0x01] ready (fun _ r => 127 < (byteAt r.params 1).toNat) ∧
    Met .groupConfig [0x07, 0x7F, 0x02] ready (fun _ r => 1 < (byteAt r.params 2).toNat) ∧
    Met .noticeAck [0x00] ready (fun s _ => s.notices.groups[0].state = .quiet) ∧
    Met .noticeAck [0x02] (raised account5 0x01 0 .served) (fun s _ =>
      s.notices.groups[2].state ≠ .quiet ∧ s.notices.groups[2].eligible = true) ∧
    Met .noticeAck [0x08] ready (fun _ r => 7 < (byteAt r.params 0).toNat) ∧
    Met .noticeEnable [0x01] ready (fun _ r => byteAt r.params 0 = 0x01) ∧
    Met .noticeEnable [0x02] ready (fun _ r => 1 < (byteAt r.params 0).toNat) ∧
    Met .groupStatus [0x07] ready (fun _ r => (byteAt r.params 0).toNat = (7 : GroupNo).val) ∧
    Met .groupStatus [0x08] ready (fun _ r => 7 < (byteAt r.params 0).toNat) := by
  and_intros <;> exact met (by decide +kernel)

theorem witness_NoticeClearClearsNamedKinds :
    Met .noticeClear [0x00, 0x05, 0x7F] (raised account5 0x01 0) (fun s r =>
      (byteAt r.params 2).toNat = (0x7F : KindSet).toNat ∧ (s.account 5).pending &&& 0x7F ≠ 0 ∧
      s.isFree 5 = false) ∧
    Met .noticeClear [0x00, 0x05, 0x00] (raised account5 0x01 0) (fun s r =>
      (byteAt r.params 2).toNat = (0x00 : KindSet).toNat ∧ (s.account 5).pending &&& 0x00 = 0) := by
  and_intros <;> exact met (by decide +kernel)

/-- A group by number, ANY by priority, a group that finds nothing, ANY with nothing RAISED, and both
ends of the values that name no group. -/
theorem witness_NoticeFetchReturnsOneAccount :
    ((serve .noticeFetch [0x02] (raised account5 0x01 0)).Chooses 0x02 2 ∧
      (raised account5 0x01 0).Finds 2 5) ∧
    ((raised account5 0x01 0).Chooses 0xFF 2) ∧
    (∀ i, ¬ready.Finds 2 i) ∧
    (∀ g : GroupNo, ready.notices.groups[g].state ≠ .raised) ∧
    (KindSet.has ((0x40 : KindSet) &&& 0x7F) NoticeKind.closed.number = true ∧
      KindSet.has ((0x01 : KindSet) &&& 0x7F) NoticeKind.closed.number = false) ∧
    ((7 < (0x08 : Byte).toNat) ∧ (0x08 : Byte) ≠ 0xFF ∧ (0xFE : Byte) ≠ 0xFF) := by
  refine ⟨⟨Or.inl rfl, ?_⟩, Or.inr ?_, ?_, by decide +kernel, by decide, by decide⟩
  · unfold State.Finds; decide +kernel
  · decide +kernel
  · intro i h
    exact absurd h.1.1 (by simp [State.isFree, State.account, ready, State.reset, Record.free,
      AccountImage.free])

/-! ### Invariants: the state after reset, which meets them all, steps -/

/-- The state after reset is fresh, and its next command goes on. -/
theorem witness_StepKeepsTheResetState :
    State.reset.StartIsReset ∧
      ∃ t, step { State.reset with pending := [.startUp] } = .next t :=
  ⟨⟨fun _ => atReset_of_store _ ⟨rfl, rfl, rfl⟩ rfl, fun h => absurd h (by decide)⟩, _, rfl⟩

theorem witness_StepKeepsTheCanonicalForm : (one account5).TablesCanonical :=
  ⟨by decide +kernel, by decide +kernel, by decide +kernel⟩

theorem witness_StepKeepsTheQueues : (serve .partIdent []).QueuesOk := ⟨by decide, by decide, by decide⟩

theorem witness_StepKeepsStoreAndTariffs :
    ((one account5).store.Ok ∧ (one account5).TariffsOk) ∧ (claiming .account .full 2).store.Ok := by
  have erased : Page.TariffOk .erased := by
    intro x number generation good h
    cases h
  refine ⟨⟨?_, ⟨?_, ?_, ?_⟩⟩, ?_⟩
  · constructor <;> decide +kernel
  · unfold classesOk; decide +kernel
  · intro p
    have : ∀ p : Fin 66, (one account5).store.array[p] = .erased := by decide +kernel
    rw [this p]
    exact erased
  · intro w h
    cases h
  · constructor <;> decide +kernel

/-- A part in service: an account with one pending kind, on the silence list, a line with a READY and a
WAITING report, a silence head to come and a second edge to carry out. -/
def metered : State :=
  { granted 0x10 (one account5 0x08) with
    supv := { ready.supv with silence := [{ slot := 5, time := 0 }], silenceLimit := 60 }
    notices := { ready.notices with
      groups := ready.notices.groups.set 2
        { ready.notices.groups[2] with
          state := .raised
          count := ready.notices.groups[2].count.set 3 1 } }
    pending := [.secondEdge] }

theorem witness_StepKeepsTheLines : metered.LinesOk := by
  refine ⟨fun n => ?_, by decide +kernel⟩
  have h : n = 0 ∨ metered.lines[n] = Line.reset := by revert n; decide +kernel
  rcases h with h | h
  · subst h
    refine ⟨?_, ?_, ?_, ?_, ?_, ?_, ?_, ?_, ?_⟩
    · decide +kernel
    · decide +kernel
    · decide +kernel
    · decide +kernel
    · intro bytes ended h
      have listening : metered.lines[(0 : LineNo)].receiver = .listening := by decide +kernel
      rw [listening] at h
      cases h
    · decide +kernel
    · intro t h
      cases h
    · decide +kernel
    · decide +kernel
  · rw [h]
    refine ⟨?_, ?_, ?_, ?_, ?_, ?_, ?_, ?_, ?_⟩
    · decide +kernel
    · decide +kernel
    · decide +kernel
    · decide +kernel
    · intro bytes ended h
      cases h
    · decide +kernel
    · intro t h
      cases h
    · decide +kernel
    · decide +kernel

theorem witness_StepKeepsTheSnapshotTotals :
    (sweeping 0).snapshot.Agrees ∧ metered.snapshot.Agrees := by
  refine ⟨?_, ?_⟩ <;> constructor <;> decide +kernel

/-- The only account of `metered`. -/
theorem metered_account (i : Slot) : i = 5 ∨ metered.account i = Record.free := by
  revert i; decide +kernel

theorem metered_notFree (i : Slot) (h : metered.isFree i = false) : i = 5 := by
  rcases metered_account i with e | e
  · exact e
  · rw [State.isFree, e] at h
    exact absurd h (by decide)

theorem metered_entries :
    metered.index.entries = [{ identity := account5.identity, slot := 5 }] := by decide +kernel

theorem metered_sound : metered.Sound where
  fresh := ⟨fun h => absurd h (by decide), fun h => absurd h (by decide)⟩
  clean := by
    intro i h
    rcases metered_account i with e | e
    · subst e
      exact absurd h (by decide +kernel)
    · rw [e]
  index := by
    constructor
    · rw [metered_entries]; decide +kernel
    · rw [metered_entries]; decide +kernel
    · intro i h
      rw [metered_notFree i h]
      decide +kernel
    · intro i j hi hj _
      rw [metered_notFree i hi, metered_notFree j hj]
    · intro b w e h
      have : ∀ (b : Fin 256) (w : Fin 4), (metered.index.bucket b)[w] = none ∨
          b = bucketOf account5.identity ∧
          (metered.index.bucket b)[w] = some { identity := account5.identity, slot := 5 } := by
        decide +kernel
      rcases this b w with k | ⟨k, k'⟩
      · rw [k] at h
        cases h
      · rw [k'] at h
        cases h
        exact k.symm
    · decide +kernel
    · decide +kernel
    · decide +kernel
  occupancy := by constructor <;> decide +kernel
  discovery := by
    constructor
    · decide +kernel
    · decide +kernel
    · decide +kernel
    · intro e h
      cases h
  lists := by constructor <;> decide +kernel
  notices := by constructor <;> decide +kernel

/-- The sound state steps, and its one command is no reset and no start-up. -/
theorem witness_StepKeepsTheIndexWithTheTable :
    metered.Sound ∧ ∃ t, step metered = .next t := ⟨metered_sound, _, rfl⟩

theorem witness_StepKeepsListsAndNoticeCounts :
    metered.Sound ∧ ∃ t, step metered = .next t := ⟨metered_sound, _, rfl⟩

theorem witness_StatesMoveByTheTable :
    metered.Sound ∧ metered.pending = [.secondEdge] ∧ ∃ t, step metered = .next t :=
  ⟨metered_sound, rfl, _, rfl⟩

end Sys2Proof.Tests
end

/-! ### The discovery list: its requests, and what they answer (R97, R112, R113) -/

namespace Sys2Proof.Proofs.DiscoveryRequests

open Sys2Proof Sys2Proof.Machine

section
variable {s t : State} {c : Instr} {q : Req} {r : Request} {a : Answer} {x : Result}
  {work : List Byte → State → State × Answer}

/-! From the work of a granted request to the answer of its command. -/

/-- A command that carries out a granted request answers what the work gives. -/
theorem answers_of_grantRequest (h : s.Serving q r) (hq : q.needsGrant = true)
    (hc : exec c s = .next (s.grantRequest q work))
    (hw : work r.params (s.turn .exec) = (t.turn .exec, a)) : s.Answers c r t a :=
  hc.trans (congrArg Host.Outcome.next (h.grantRequest hq hw))

/-- A command whose work refuses gives the bare result and leaves the state (R14). -/
theorem refuses_of_grantRequest (h : s.Serving q r) (hq : q.needsGrant = true)
    (hc : exec c s = .next (s.grantRequest q work))
    (hw : work r.params (s.turn .exec) = (s.turn .exec).refuse x) : s.Refuses c r x :=
  answers_of_grantRequest h hq hc hw

end

/-! The three commands. -/

theorem exec_setUnknownPolicy (s : State) :
    exec .setUnknownPolicy s = .next (s.grantRequest .setUnknownPolicy setUnknownPolicyWork) := rfl

theorem exec_discoveryTake (s : State) :
    exec .discoveryTake s = .next (s.grantRequest .discoveryTake discoveryTakeWork) := rfl

theorem exec_discoveryClear (s : State) :
    exec .discoveryClear s = .next (s.grantRequest .discoveryClear discoveryClearWork) := rfl

/-! Policy codes (R97). -/

theorem policy_ofCode_code (p : UnknownPolicy) : UnknownPolicy.ofCode p.code = some p := by
  cases p <;> rfl

theorem policy_code_le_two (p : UnknownPolicy) : p.code.toNat ≤ 2 := by
  cases p <;> decide

/-- A byte above 02h is the code of no policy. -/
theorem policy_ofCode_of_two_lt {b : Byte} (hb : 2 < b.toNat) : UnknownPolicy.ofCode b = none := by
  refine List.find?_eq_none.mpr fun p _ hp => ?_
  have hcode : p.code = b := eq_of_beq hp
  have hle := policy_code_le_two p
  rw [hcode] at hle
  omega

/-! What the work of each request does, in each of its cases. -/

section
variable {s : State} {ps : List Byte}

theorem setUnknownPolicyWork_of_code {p : UnknownPolicy} (hp : byteAt ps 0 = p.code) :
    setUnknownPolicyWork ps s =
      ({ s with discovery := { s.discovery with policy := p } },
        .ok [s.discovery.policy.code]) := by
  rw [setUnknownPolicyWork, hp, policy_ofCode_code]

theorem setUnknownPolicyWork_of_two_lt (hp : 2 < (byteAt ps 0).toNat) :
    setUnknownPolicyWork ps s = s.refuse .badParam := by
  rw [setUnknownPolicyWork, policy_ofCode_of_two_lt hp]

theorem discoveryTakeWork_of_nil (hl : s.discovery.entries = []) :
    discoveryTakeWork ps s = s.refuse .none := by
  rw [discoveryTakeWork, hl]

theorem discoveryTakeWork_of_cons {e : DiscoveryEntry} {es : List DiscoveryEntry}
    (hl : s.discovery.entries = e :: es) :
    discoveryTakeWork ps s =
      ({ s with discovery := { s.discovery with entries := es } },
        .ok (bytes48 e.identity ++ num8 e.line.val ++ bytes32 e.firstSeen ++
          [e.sightings, e.lastSequence] ++ num8 es.length ++ bytes16 s.discovery.overflow)) := by
  rw [discoveryTakeWork, hl]

theorem discoveryClearWork_eq :
    discoveryClearWork ps s =
      ({ s with discovery := { s.discovery with entries := [], overflow := 0 } },
        .ok (num8 s.discovery.entries.length ++ bytes16 s.discovery.overflow)) := rfl

end

/-! What each command answers. -/

section
variable {s : State} {r : Request}

theorem setUnknownPolicy_answers (h : s.Serving .setUnknownPolicy r) {p : UnknownPolicy}
    (hp : byteAt r.params 0 = p.code) :
    s.Answers .setUnknownPolicy r
      { s with discovery := { s.discovery with policy := p } } (.ok [s.discovery.policy.code]) :=
  answers_of_grantRequest h rfl (exec_setUnknownPolicy s) (setUnknownPolicyWork_of_code hp)

theorem setUnknownPolicy_refuses (h : s.Serving .setUnknownPolicy r)
    (hp : 2 < (byteAt r.params 0).toNat) : s.Refuses .setUnknownPolicy r .badParam :=
  refuses_of_grantRequest h rfl (exec_setUnknownPolicy s) (setUnknownPolicyWork_of_two_lt hp)

theorem discoveryTake_refuses (h : s.Serving .discoveryTake r) (hl : s.discovery.entries = []) :
    s.Refuses .discoveryTake r .none :=
  refuses_of_grantRequest h rfl (exec_discoveryTake s) (discoveryTakeWork_of_nil hl)

theorem discoveryTake_answers (h : s.Serving .discoveryTake r) {e : DiscoveryEntry}
    {es : List DiscoveryEntry} (hl : s.discovery.entries = e :: es) :
    s.Answers .discoveryTake r { s with discovery := { s.discovery with entries := es } }
      (.ok (bytes48 e.identity ++ num8 e.line.val ++ bytes32 e.firstSeen ++
        [e.sightings, e.lastSequence] ++ num8 es.length ++ bytes16 s.discovery.overflow)) :=
  answers_of_grantRequest h rfl (exec_discoveryTake s) (discoveryTakeWork_of_cons hl)

theorem discoveryClear_answers (h : s.Serving .discoveryClear r) :
    s.Answers .discoveryClear r
      { s with discovery := { s.discovery with entries := [], overflow := 0 } }
      (.ok (num8 s.discovery.entries.length ++ bytes16 s.discovery.overflow)) :=
  answers_of_grantRequest h rfl (exec_discoveryClear s) discoveryClearWork_eq

end

/-- Settles O47: each request is served in its grant, so its command answers what its work gives, case
by case. -/
theorem discoveryRequestsAnswer : Obligations.DiscoveryRequestsAnswer :=
  ⟨fun _ _ h => ⟨fun _ => setUnknownPolicy_answers h, setUnknownPolicy_refuses h⟩,
    fun _ _ h => ⟨discoveryTake_refuses h, fun _ _ => discoveryTake_answers h⟩,
    fun _ _ => discoveryClear_answers⟩

end Sys2Proof.Proofs.DiscoveryRequests

/-! ### The notice controller: its requests, and what they answer (R132 to R143) -/

namespace Sys2Proof.Proofs.NoticeRequests

open Sys2Proof Sys2Proof.Machine
open Sys2Proof.Proofs.DiscoveryRequests (answers_of_grantRequest refuses_of_grantRequest)

/-! The commands. -/

theorem exec_groupConfig (s : State) :
    exec .groupConfig s = .next (s.grantRequest .groupConfig groupConfigWork) := rfl

theorem exec_noticeFetch (s : State) :
    exec .noticeFetch s = .next (s.grantRequest .noticeFetch noticeFetchWork) := rfl

theorem exec_noticeAck (s : State) :
    exec .noticeAck s = .next (s.grantRequest .noticeAck noticeAckWork) := rfl

theorem exec_noticeClear (s : State) :
    exec .noticeClear s = .next (s.grantRequest .noticeClear noticeClearWork) := rfl

theorem exec_noticeEnable (s : State) :
    exec .noticeEnable s = .next (s.directRequest .noticeEnable noticeEnableWork) := rfl

theorem exec_groupStatus (s : State) :
    exec .groupStatus s = .next (s.grantRequest .groupStatus groupStatusWork) := rfl

/-- A command that carries out a request without a grant answers what the work gives. -/
theorem answers_of_directRequest {s t : State} {c : Instr} {q : Req} {r : Request} {a : Answer}
    {work : List Byte → State → State × Answer} (h : s.Serving q r) (hq : q.needsGrant = false)
    (hc : exec c s = .next (s.directRequest q work)) (hw : work r.params s = (t, a)) :
    s.Answers c r t a :=
  hc.trans (congrArg Host.Outcome.next (h.directRequest hq hw))

/-! Parameters: group, kind set and priority (R141, R142). -/

section
variable {ps : List Byte} {n : Nat}

theorem groupAt_of_toNat {g : GroupNo} (h : (byteAt ps n).toNat = g.val) :
    groupAt ps n = some g :=
  below_eq_some.mpr h

theorem groupAt_of_seven_lt (h : 7 < (byteAt ps n).toNat) : groupAt ps n = none :=
  below_eq_none.mpr h

theorem num8_of_toNat {g : GroupNo} (h : (byteAt ps n).toNat = g.val) :
    num8 g.val = [byteAt ps n] := by
  rw [num8, ← h, BitVec.ofNat_toNat, BitVec.setWidth_eq]

/-- Bit 7 of a byte is set exactly where its value is above 127. -/
theorem getLsbD_seven_iff (b : Byte) : b.getLsbD 7 = true ↔ 127 < b.toNat := by
  rw [show b.getLsbD 7 = b.msb from rfl, BitVec.msb_eq_true_iff_two_mul_ge]
  omega

theorem kindsAt_of_toNat {ks : KindSet} (h : (byteAt ps n).toNat = ks.toNat) :
    kindsAt ps n = some ks := by
  have hlt := ks.isLt
  have hbit : (byteAt ps n).getLsbD 7 = false := by
    rw [Bool.eq_false_iff, Ne, getLsbD_seven_iff]
    omega
  have hset : (byteAt ps n).setWidth 7 = ks := by
    apply BitVec.eq_of_toNat_eq
    rw [BitVec.toNat_setWidth, h, Nat.mod_eq_of_lt hlt]
  rw [kindsAt, hbit, hset]
  rfl

theorem kindsAt_of_lt_toNat (h : 127 < (byteAt ps n).toNat) : kindsAt ps n = none := by
  rw [kindsAt, (getLsbD_seven_iff _).mpr h]
  rfl

theorem priority_ofCode_code (p : Priority) : Priority.ofCode p.code = some p := by
  cases p <;> rfl

theorem priority_code_le_one (p : Priority) : p.code.toNat ≤ 1 := by
  cases p <;> decide

/-- A byte above 01h is the code of no priority. -/
theorem priority_ofCode_of_one_lt {b : Byte} (hb : 1 < b.toNat) : Priority.ofCode b = none := by
  refine List.find?_eq_none.mpr fun p _ hp => ?_
  have hle := priority_code_le_one p
  rw [eq_of_beq hp] at hle
  omega

end

/-! One group: how it changes (R133, R135, R138, R140). -/

section
variable (n : Notices) (g : GroupNo) (x : Group) (f f' : Group → Group)

theorem update_update : (n.update g f).update g f' = n.update g fun y => f' (f y) := by
  simp [Notices.update]

/-- A group changed to a known value. -/
theorem updateGroup_of_eq {s : State} {g : GroupNo} {x : Group} {f : Group → Group}
    (h : f s.notices.groups[g] = x) :
    s.updateGroup g f =
      { s with notices := { s.notices with groups := s.notices.groups.set g x } } := by
  rw [← h]; rfl

theorem updateGroup_self {s : State} {g : GroupNo} {f : Group → Group}
    (h : f s.notices.groups[g] = s.notices.groups[g]) : s.updateGroup g f = s := by
  simp [updateGroup_of_eq h]

theorem serve_eq :
    x.serve = { x with state := if x.state = .raised then .served else x.state } := by
  unfold Group.serve
  split <;> rfl

theorem acknowledge_of_quiet {x : Group} (h : x.state = .quiet) : x.acknowledge = x :=
  if_pos h

/-- An acknowledged group is RAISED again exactly where it is still eligible (R140). -/
theorem acknowledge_of_not_quiet {x : Group} (h : x.state ≠ .quiet) :
    x.acknowledge = { x with state := if x.eligible then .raised else .quiet } := by
  rw [Group.acknowledge, if_neg h, Group.raise_eq]
  simp only [true_and]
  rfl

/-- A configured group is RAISED where it was QUIET and a kind of the new mask is counted, and else
keeps its state (R135, R142). -/
theorem raise_configured {x : Group} {mask : KindSet} {p : Priority} {st : GroupState}
    (hraised : (∃ k : Fin 7, KindSet.has mask k = true ∧ 0 < x.count[k]) →
      x.state = .quiet → st = .raised)
    (hkept : (¬∃ k : Fin 7, KindSet.has mask k = true ∧ 0 < x.count[k]) ∨ x.state ≠ .quiet →
      st = x.state) :
    { x with mask := mask, priority := p }.raise =
      { x with mask := mask, priority := p, state := st } := by
  have heligible := Group.eligible_iff { x with mask := mask, priority := p }
  rw [Group.raise_eq]
  congr 1
  split
  · next h => exact (hraised (heligible.mp h.2) h.1).symm
  · next h =>
    refine (hkept (Decidable.or_iff_not_imp_right.mpr fun hq hr => h ⟨?_, heligible.mpr hr⟩)).symm
    exact Decidable.not_not.mp hq

/-- Serving a group does not look at its counts. -/
theorem serve_dropKinds (ks : KindSet) : (x.dropKinds ks).serve = x.serve.dropKinds ks := by
  rw [serve_eq, serve_eq]; rfl

/-- Dropping some of the pending kinds and then the rest is dropping them all. -/
theorem dropKinds_dropKinds (ks ls : KindSet) :
    (x.dropKinds (ks &&& ls)).dropKinds (ks &&& ~~~ls) = x.dropKinds ks := by
  have hcount : ∀ k : Fin 7, ∀ c : Nat,
      c - (if KindSet.has (ks &&& ls) k then 1 else 0) -
          (if KindSet.has (ks &&& ~~~ls) k then 1 else 0) =
        c - if KindSet.has ks k then 1 else 0 := by
    intro k c
    simp only [KindSet.has, BitVec.getLsbD_and, BitVec.getLsbD_not, k.isLt]
    by_cases hk : ks.getLsbD k.val = true <;> by_cases hl : ls.getLsbD k.val = true <;>
      simp [-BitVec.getLsbD_eq_getElem, hk, hl]
  simp [Group.dropKinds, hcount]

end

/-! What the work of each group request does, in each of its cases. -/

section
variable {s : State} {ps : List Byte} {g : GroupNo}

theorem groupConfigWork_of_params {mask : KindSet} {p : Priority} {st : GroupState}
    (hg : (byteAt ps 0).toNat = g.val) (hm : (byteAt ps 1).toNat = mask.toNat)
    (hp : byteAt ps 2 = p.code)
    (hraised : (∃ k : Fin 7, KindSet.has mask k = true ∧ 0 < s.notices.groups[g].count[k]) →
      s.notices.groups[g].state = .quiet → st = .raised)
    (hkept : (¬∃ k : Fin 7, KindSet.has mask k = true ∧ 0 < s.notices.groups[g].count[k]) ∨
      s.notices.groups[g].state ≠ .quiet → st = s.notices.groups[g].state) :
    groupConfigWork ps s =
      ({ s with notices := { s.notices with
          groups := s.notices.groups.set g
            { s.notices.groups[g] with mask := mask, priority := p, state := st } } },
        .ok []) := by
  rw [groupConfigWork, groupAt_of_toNat hg, kindsAt_of_toNat hm, hp, priority_ofCode_code]
  exact congrArg (·, Answer.ok []) (updateGroup_of_eq (raise_configured hraised hkept))

theorem groupConfigWork_of_bad (h : 7 < (byteAt ps 0).toNat ∨ 127 < (byteAt ps 1).toNat ∨
    1 < (byteAt ps 2).toNat) : groupConfigWork ps s = s.refuse .badParam := by
  unfold groupConfigWork
  split
  · next hg hm hp =>
    rcases h with h | h | h
    · cases hg.symm.trans (groupAt_of_seven_lt h)
    · cases hm.symm.trans (kindsAt_of_lt_toNat h)
    · cases hp.symm.trans (priority_ofCode_of_one_lt h)
  · rfl

theorem noticeAckWork_of_group (hg : (byteAt ps 0).toNat = g.val) :
    noticeAckWork ps s = (s.updateGroup g Group.acknowledge,
      .ok [s.notices.groups[g].acknowledge.state.code]) := by
  rw [noticeAckWork, groupAt_of_toNat hg]
  simp

theorem noticeAckWork_of_quiet (hg : (byteAt ps 0).toNat = g.val)
    (hq : s.notices.groups[g].state = .quiet) : noticeAckWork ps s = (s, .ok [0x00]) := by
  rw [noticeAckWork_of_group hg, updateGroup_self (acknowledge_of_quiet hq),
    acknowledge_of_quiet hq, hq]
  rfl

theorem noticeAckWork_of_not_quiet {st : GroupState} (hg : (byteAt ps 0).toNat = g.val)
    (hq : s.notices.groups[g].state ≠ .quiet)
    (hst : st = if s.notices.groups[g].eligible then .raised else .quiet) :
    noticeAckWork ps s =
      ({ s with notices := { s.notices with
          groups := s.notices.groups.set g { s.notices.groups[g] with state := st } } },
        .ok [st.code]) := by
  rw [noticeAckWork_of_group hg, updateGroup_of_eq (acknowledge_of_not_quiet hq),
    acknowledge_of_not_quiet hq, hst]

theorem noticeAckWork_of_bad (h : 7 < (byteAt ps 0).toNat) :
    noticeAckWork ps s = s.refuse .badParam := by
  rw [noticeAckWork, groupAt_of_seven_lt h]

theorem noticeEnableWork_of_bool {on : Bool} (h : byteAt ps 0 = if on then 0x01 else 0x00) :
    noticeEnableWork ps s = ({ s with notices := { s.notices with enable := on } },
      .ok [if s.notices.enable then 0x01 else 0x00]) := by
  rw [noticeEnableWork, h]
  cases on <;> rfl

theorem noticeEnableWork_of_bad (h : 1 < (byteAt ps 0).toNat) :
    noticeEnableWork ps s = s.refuse .badParam := by
  have h0 : byteAt ps 0 ≠ 0x00 := by intro e; rw [e] at h; exact absurd h (by decide)
  have h1 : byteAt ps 0 ≠ 0x01 := by intro e; rw [e] at h; exact absurd h (by decide)
  simp only [noticeEnableWork, if_neg h0, if_neg h1]

theorem groupStatusWork_of_group (hg : (byteAt ps 0).toNat = g.val) :
    groupStatusWork ps s = (s, .ok (s.notices.groups[g].statusBytes g)) := by
  rw [groupStatusWork, groupAt_of_toNat hg]

theorem groupStatusWork_of_bad (h : 7 < (byteAt ps 0).toNat) :
    groupStatusWork ps s = s.refuse .badParam := by
  rw [groupStatusWork, groupAt_of_seven_lt h]

/-- The response of GROUP_STATUS, count by count (R143). -/
theorem statusBytes_eq {x : Group} (hg : (byteAt ps 0).toNat = g.val) :
    x.statusBytes g =
      [byteAt ps 0, x.state.code, kindByte x.mask, x.priority.code] ++
      num16 x.count[0] ++ num16 x.count[1] ++ num16 x.count[2] ++ num16 x.count[3] ++
      num16 x.count[4] ++ num16 x.count[5] ++ num16 x.count[6] := by
  have hcounts : (kindNumbers.flatMap fun k => num16 x.count[k]) =
      num16 x.count[0] ++ (num16 x.count[1] ++ (num16 x.count[2] ++ (num16 x.count[3] ++
        (num16 x.count[4] ++ (num16 x.count[5] ++ (num16 x.count[6] ++ [])))))) := rfl
  rw [Group.statusBytes, hcounts, num8_of_toNat hg]
  simp only [List.cons_append, List.nil_append, List.append_assoc, List.append_nil]

end

/-- Settles O48: each request is one change, or none, of the group that its first byte numbers (of the
enable for NOTICE_ENABLE), and its command answers what its work gives. -/
theorem groupRequestsAnswer : Obligations.GroupRequestsAnswer := by
  refine ⟨fun s r h => ⟨?_, ?_⟩, fun s r h => ⟨fun g hg => ⟨?_, ?_⟩, ?_⟩,
    fun s r h => ⟨?_, ?_⟩, fun s r h => ⟨?_, ?_⟩⟩
  · intro g mask p hg hm hp group raises st hraised hkept
    exact answers_of_grantRequest h rfl (exec_groupConfig s)
      (groupConfigWork_of_params hg hm hp hraised hkept)
  · exact fun hbad => refuses_of_grantRequest h rfl (exec_groupConfig s) (groupConfigWork_of_bad hbad)
  · exact fun hq => answers_of_grantRequest h rfl (exec_noticeAck s) (noticeAckWork_of_quiet hg hq)
  · exact fun hq st hst => answers_of_grantRequest h rfl (exec_noticeAck s)
      (noticeAckWork_of_not_quiet hg hq hst)
  · exact fun hbad => refuses_of_grantRequest h rfl (exec_noticeAck s) (noticeAckWork_of_bad hbad)
  · exact fun on hon => answers_of_directRequest h rfl (exec_noticeEnable s)
      (noticeEnableWork_of_bool hon)
  · exact fun hbad => answers_of_directRequest h rfl (exec_noticeEnable s)
      (noticeEnableWork_of_bad hbad)
  · intro g hg group
    rw [← statusBytes_eq hg]
    exact answers_of_grantRequest h rfl (exec_groupStatus s) (groupStatusWork_of_group hg)
  · exact fun hbad => refuses_of_grantRequest h rfl (exec_groupStatus s) (groupStatusWork_of_bad hbad)

/-! Clearing kinds by NOTICE_CLEAR (R141). -/

section
variable {s : State} {i : Slot} {ps : List Byte} {ks : KindSet}

theorem copyBeforeWrite_turn_eq (s : State) (i : Slot) (c : Claimant) :
    (s.turn c).copyBeforeWrite i = (s.copyBeforeWrite i).turn c := by
  calc (s.turn c).copyBeforeWrite i
      = { s.turn c with snapshot := ((s.turn c).copyBeforeWrite i).snapshot } :=
        State.copyBeforeWrite_eq _ i
    _ = ({ s with snapshot := (s.copyBeforeWrite i).snapshot } : State).turn c := by
        rw [State.copyBeforeWrite_turn]; rfl
    _ = (s.copyBeforeWrite i).turn c := by rw [← s.copyBeforeWrite_eq i]

/-- Kinds cleared after a capture: record, counts and snapshot change, and nothing else. -/
theorem clearKinds_copyBeforeWrite_eq (s : State) (i : Slot) (ks : KindSet) :
    (s.copyBeforeWrite i).clearKinds i ks =
      { s with
        table := ((s.copyBeforeWrite i).clearKinds i ks).table
        notices := (s.clearKinds i ks).notices
        snapshot := (s.copyBeforeWrite i).snapshot } := by
  rw [State.copyBeforeWrite_eq]; rfl

theorem noticeClearWork_of_account (hi : (halfAt ps 0).toNat = i.val)
    (hk : (byteAt ps 2).toNat = ks.toNat) (hf : s.isFree i = false) :
    noticeClearWork ps s =
      if (s.account i).pending &&& ks = 0 then (s, .ok [0x00])
      else ((s.copyBeforeWrite i).clearKinds i ks, .ok [kindByte ((s.account i).pending &&& ks)]) := by
  have hslot : slotAt ps 0 = some i := below_eq_some.mpr hi
  simp [noticeClearWork, kindsAt_of_toNat hk, hslot, State.onAccount, hf]

/-- The work of a NOTICE_CLEAR that clears kinds, in its grant. -/
theorem noticeClearWork_turn (hi : (halfAt ps 0).toNat = i.val)
    (hk : (byteAt ps 2).toNat = ks.toNat) (hf : s.isFree i = false)
    (hne : (s.account i).pending &&& ks ≠ 0) :
    noticeClearWork ps (s.turn .exec) =
      (((s.copyBeforeWrite i).clearKinds i ks).turn .exec,
        .ok [kindByte ((s.account i).pending &&& ks)]) := by
  rw [noticeClearWork_of_account (s := s.turn .exec) hi hk hf, State.account_turn, if_neg hne,
    copyBeforeWrite_turn_eq]
  rfl

end

/-- Settles O49: where a named kind is pending, the work captures the slot and clears the kinds; else it
leaves the state. -/
theorem noticeClearClearsNamedKinds : Obligations.NoticeClearClearsNamedKinds := by
  intro s r i ks h hi hk hf cleared
  refine ⟨fun hz => ?_, fun hne => ⟨(s.copyBeforeWrite i).clearKinds i ks, ?_, ?_, ?_, ?_, ?_⟩⟩
  · refine answers_of_grantRequest h rfl (exec_noticeClear s) ?_
    rw [noticeClearWork_of_account (s := s.turn .exec) hi hk hf]
    exact if_pos hz
  · exact answers_of_grantRequest h rfl (exec_noticeClear s) (noticeClearWork_turn hi hk hf hne)
  · simp
  · intro j hj
    simp [hj]
  · rw [clearKinds_copyBeforeWrite_eq]
    exact s.clearKinds_lost i ks
  · rw [clearKinds_copyBeforeWrite_eq]

/-! A search through the numbers below a bound, in order. -/

section
variable {n : Nat} {p : Fin n → Bool}

/-- The search finds the lowest number that meets the test. -/
theorem find?_finRange_eq_some_iff {i : Fin n} :
    (List.finRange n).find? p = some i ↔ p i = true ∧ ∀ j, j < i → p j = false := by
  rw [List.find?_eq_some_iff_getElem]
  refine and_congr_right fun _ => ⟨fun ⟨k, hk, hki, hlow⟩ j hj => ?_, fun hlow => ?_⟩
  · rw [List.getElem_finRange] at hki
    have hval : k = i.val := congrArg Fin.val hki
    have hnot := hlow j.val (hval ▸ hj)
    rw [List.getElem_finRange] at hnot
    exact (Bool.not_eq_true' _).mp hnot
  · refine ⟨i.val, by rw [List.length_finRange]; exact i.isLt, List.getElem_finRange _,
      fun k hk => ?_⟩
    rw [List.getElem_finRange]
    exact (Bool.not_eq_true' _).mpr (hlow ⟨k, Nat.lt_trans hk i.isLt⟩ hk)

theorem find?_finRange_eq_none_iff : (List.finRange n).find? p = none ↔ ∀ i, p i = false := by
  rw [List.find?_eq_none]
  exact ⟨fun h i => Bool.eq_false_iff.mpr (h i (List.mem_finRange i)),
    fun h i _ => Bool.eq_false_iff.mp (h i)⟩

end

/-! The group that NOTICE_FETCH chooses (R137). -/

section
variable {n : Notices} {s : State} {g : GroupNo} {p : Priority}

theorem raisedWith_eq_find? (n : Notices) (p : Priority) :
    n.raisedWith p = (List.finRange 8).find? fun g =>
      n.groups[g].state == .raised && n.groups[g].priority == p := rfl

/-- The lowest RAISED group of a priority. -/
theorem raisedWith_of_lowest (hr : n.groups[g].state = .raised) (hp : n.groups[g].priority = p)
    (hlow : ∀ h : GroupNo, h < g → n.groups[h].state = .raised → n.groups[h].priority ≠ p) :
    n.raisedWith p = some g := by
  rw [raisedWith_eq_find?, find?_finRange_eq_some_iff]
  exact ⟨by simp only [hr, hp, beq_self_eq_true, Bool.and_self], fun h hh => by simpa using hlow h hh⟩

theorem raisedWith_of_none
    (hnone : ∀ h : GroupNo, n.groups[h].state = .raised → n.groups[h].priority ≠ p) :
    n.raisedWith p = none := by
  rw [raisedWith_eq_find?, find?_finRange_eq_none_iff]
  exact fun h => by simpa using hnone h

/-- ANY chooses the lowest RAISED group of priority HIGH before any of priority LOW (R137). -/
theorem anyGroup_of_lowest (hr : n.groups[g].state = .raised)
    (hlow : ∀ h : GroupNo, h < g → n.groups[h].state = .raised →
      n.groups[h].priority ≠ n.groups[g].priority)
    (hhigh : n.groups[g].priority = .low →
      ∀ h : GroupNo, n.groups[h].state = .raised → n.groups[h].priority ≠ .high) :
    n.anyGroup = some g := by
  have hg := raisedWith_of_lowest hr rfl hlow
  rw [Notices.anyGroup]
  cases hp : n.groups[g].priority with
  | high => rw [← hp, hg, Option.some_or]
  | low => rw [raisedWith_of_none (hhigh hp), Option.none_or, ← hp, hg]

theorem anyGroup_of_no_raised (hnone : ∀ h : GroupNo, n.groups[h].state ≠ .raised) :
    n.anyGroup = none := by
  rw [Notices.anyGroup, raisedWith_of_none fun h hr => absurd hr (hnone h),
    raisedWith_of_none fun h hr => absurd hr (hnone h), Option.none_or]

variable {ps : List Byte}

/-- A fetch goes to the group it chooses. -/
theorem noticeFetchWork_of_chooses (h : s.Chooses (byteAt ps 0) g) :
    noticeFetchWork ps s = s.fetchFrom g := by
  rw [noticeFetchWork]
  rcases h with hg | ⟨hany, hr, hlow, hhigh⟩
  · have hne : byteAt ps 0 ≠ 0xFF := by
      intro e
      have hlt := g.isLt
      rw [← hg, e] at hlt
      exact absurd hlt (by decide)
    rw [if_neg hne, groupAt_of_toNat hg]
  · rw [if_pos hany, anyGroup_of_lowest hr hlow hhigh]

theorem noticeFetchWork_of_no_raised (hany : byteAt ps 0 = 0xFF)
    (hnone : ∀ h : GroupNo, s.notices.groups[h].state ≠ .raised) :
    noticeFetchWork ps s = (s, { result := .none, bytes := [0xFF] }) := by
  rw [noticeFetchWork, if_pos hany, anyGroup_of_no_raised hnone]

theorem noticeFetchWork_of_bad (h : 7 < (byteAt ps 0).toNat) (hne : byteAt ps 0 ≠ 0xFF) :
    noticeFetchWork ps s = s.refuse .badParam := by
  rw [noticeFetchWork, if_neg hne, groupAt_of_seven_lt h]

end

/-! The account that a fetch finds (R138). -/

section
variable {s : State} {g : GroupNo} {i : Slot}

theorem qualifies_iff {mask : KindSet} :
    (s.account i).qualifies g mask = true ↔
      s.isFree i = false ∧ (s.account i).image.group = g ∧ (s.account i).pending &&& mask ≠ 0 := by
  simp [Record.qualifies, State.isFree, and_assoc]

theorem fetchSlot_eq_some_iff : s.fetchSlot g = some i ↔ s.Finds g i := by
  rw [State.fetchSlot, allSlots, find?_finRange_eq_some_iff]
  refine and_congr qualifies_iff (forall₂_congr fun j _ => ?_)
  rw [← Bool.not_eq_true, qualifies_iff]

/-- A fetch finds an account of its group alone. -/
theorem group_of_finds (h : s.Finds g i) : (s.account i).image.group = g := by
  obtain ⟨⟨_, hg, _⟩, _⟩ := h
  exact hg

theorem fetchFrom_of_finds (h : s.Finds g i) : s.fetchFrom g = s.fetchAccount g i := by
  unfold State.fetchFrom
  rw [fetchSlot_eq_some_iff.mpr h]

theorem fetchFrom_of_not_finds (h : ∀ i, ¬s.Finds g i) :
    s.fetchFrom g = (s.updateGroup g Group.serve, { result := .none, bytes := num8 g.val }) := by
  have hnone : s.fetchSlot g = none :=
    Option.eq_none_iff_forall_ne_some.mpr fun i hi => h i (fetchSlot_eq_some_iff.mp hi)
  unfold State.fetchFrom
  rw [hnone]

end

/-! What a fetch leaves: the state before a retirement is completed, and after it (R138, R139). -/

/-- The kinds a fetch from group `g` returns for the account in slot `i`. -/
def fetchedKinds (s : State) (g : GroupNo) (i : Slot) : KindSet :=
  (s.account i).pending &&& s.notices.groups[g].mask

/-- The kinds returned are pending. -/
theorem pending_and_fetchedKinds (s : State) (g : GroupNo) (i : Slot) :
    (s.account i).pending &&& fetchedKinds s g i = fetchedKinds s g i := by
  rw [fetchedKinds, ← BitVec.and_assoc, BitVec.and_self]

/-- The state of a fetch with the slot captured, the returned kinds cleared and the group served. -/
def fetchCleared (s : State) (g : GroupNo) (i : Slot) : State :=
  ((s.copyBeforeWrite i).clearKinds i (fetchedKinds s g i)).updateGroup g Group.serve

section
variable (s : State) (g : GroupNo) (i j : Slot)

/-- A fetch that returns CLOSED goes on to free the slot (R139). -/
theorem fetchAccount_eq :
    s.fetchAccount g i =
      (if KindSet.has (fetchedKinds s g i) NoticeKind.closed.number then
          (fetchCleared s g i).freeSlot i
        else fetchCleared s g i,
        .ok (fetchBytes g i (s.account i).image (fetchedKinds s g i)
          (KindSet.has (fetchedKinds s g i) NoticeKind.closed.number))) := rfl

theorem freeSlot_turn (c : Claimant) : (s.turn c).freeSlot i = (s.freeSlot i).turn c := by
  unfold State.freeSlot
  rw [copyBeforeWrite_turn_eq]
  rfl

theorem fetchCleared_turn (c : Claimant) :
    fetchCleared (s.turn c) g i = (fetchCleared s g i).turn c := by
  unfold fetchCleared
  rw [copyBeforeWrite_turn_eq]
  rfl

/-- A fetch does not depend on whose turn it is. -/
theorem fetchAccount_turn (c : Claimant) :
    (s.turn c).fetchAccount g i = ((s.fetchAccount g i).1.turn c, (s.fetchAccount g i).2) := by
  rw [fetchAccount_eq, fetchAccount_eq, fetchCleared_turn, freeSlot_turn,
    apply_ite (fun t : State => t.turn c)]
  rfl

theorem account_fetchCleared :
    (fetchCleared s g i).account j =
      if j = i then
        { s.account i with pending := (s.account i).pending &&& ~~~s.notices.groups[g].mask }
      else s.account j := by
  have hrest : ∀ p m : KindSet, p &&& ~~~(p &&& m) = p &&& ~~~m := by
    intro p m
    rw [BitVec.not_and, BitVec.and_or_distrib_left]
    simp
  simp [fetchCleared, fetchedKinds, hrest]

theorem fetchCleared_eq :
    fetchCleared s g i = { s with
      table := (fetchCleared s g i).table
      notices := (s.clearKinds i (fetchedKinds s g i)).notices.update g Group.serve
      snapshot := (s.copyBeforeWrite i).snapshot } := by
  rw [fetchCleared, clearKinds_copyBeforeWrite_eq]; rfl

/-- A slot is captured once: a second copy-before-write finds it captured (R12, R152). -/
theorem copyBeforeWrite_snapshot_again {s t : State} {i : Slot}
    (h : t.snapshot = (s.copyBeforeWrite i).snapshot) :
    (t.copyBeforeWrite i).snapshot = (s.copyBeforeWrite i).snapshot := by
  rw [t.copyBeforeWrite_snapshot, h, if_neg]
  rintro ⟨hs, hc⟩
  rw [s.copyBeforeWrite_snapshot] at hs hc
  split at hc
  · rw [(Snapshot.capture_captured i s.snapshot (s.account i)).shadow] at hc
    cases hc
  · next hn =>
    rw [if_neg hn] at hs
    exact hn ⟨hs, hc⟩

/-- When a retirement is completed, the kinds that the fetch did not return leave the counts too: in all,
every pending kind of the account has left its group, and the group is served. -/
theorem notices_fetchCleared_rest (hg : (s.account i).image.group = g) :
    ((fetchCleared s g i).notices.update ((fetchCleared s g i).account i).image.group fun x =>
        x.dropKinds ((fetchCleared s g i).account i).pending) =
      (s.clearKinds i (BitVec.allOnes 7)).notices.update g Group.serve := by
  subst hg
  rw [account_fetchCleared, if_pos rfl, fetchCleared_eq]
  simp only [State.clearKinds_notices, update_update, BitVec.and_allOnes, pending_and_fetchedKinds]
  simp only [fetchedKinds, ← serve_dropKinds, dropKinds_dropKinds]

/-- What a fetch that returns CLOSED leaves, field by field (R23, R139). -/
theorem freeSlot_fetchCleared_eq (hg : (s.account i).image.group = g) :
    (fetchCleared s g i).freeSlot i = { s with
      table := ((fetchCleared s g i).freeSlot i).table
      occupancy := s.occupancy - 1
      index := s.index.remove (s.account i).image.identity
      supv := (s.supv.leaveSilence i).leaveGrace i
      notices := (s.clearKinds i (BitVec.allOnes 7)).notices.update g Group.serve
      snapshot := (s.copyBeforeWrite i).snapshot } := by
  have hsnapshot : ((fetchCleared s g i).copyBeforeWrite i).snapshot =
      (s.copyBeforeWrite i).snapshot :=
    copyBeforeWrite_snapshot_again (by rw [fetchCleared_eq])
  have hidentity : ((fetchCleared s g i).account i).image.identity =
      (s.account i).image.identity := by
    simp [account_fetchCleared]
  rw [State.freeSlot_eq, notices_fetchCleared_rest s g i hg, hsnapshot, hidentity, fetchCleared_eq]

/-- A fetch changes the record of the account it returns alone. -/
theorem fetchAccount_sameElsewhere : s.SameElsewhere (s.fetchAccount g i).1 i := by
  intro j hj
  rw [fetchAccount_eq]
  split <;> simp [State.account_freeSlot, account_fetchCleared, hj]

end

/-- A fetch that returns CLOSED loses all the pending kinds, and another those it returns. -/
theorem clearKinds_lost_fetched {s : State} {g : GroupNo} {i : Slot}
    (hg : (s.account i).image.group = g) (freed : Bool) :
    s.notices.Lost
      (s.clearKinds i (if freed then BitVec.allOnes 7 else fetchedKinds s g i)).notices g
      (if freed then (s.account i).pending else fetchedKinds s g i) := by
  have hlost := s.clearKinds_lost i (if freed then BitVec.allOnes 7 else fetchedKinds s g i)
  rw [hg] at hlost
  cases freed
  · rwa [if_neg Bool.false_ne_true, pending_and_fetchedKinds] at hlost
  · rwa [if_pos rfl, BitVec.and_allOnes] at hlost

/-! What NOTICE_FETCH answers. -/

section
variable {s : State} {r : Request} {g : GroupNo} {i : Slot}

theorem noticeFetch_answers_none (h : s.Serving .noticeFetch r)
    (hc : s.Chooses (byteAt r.params 0) g) (hf : ∀ i, ¬s.Finds g i) :
    s.Answers .noticeFetch r (s.updateGroup g Group.serve)
      { result := .none, bytes := num8 g.val } := by
  refine answers_of_grantRequest h rfl (exec_noticeFetch s) ?_
  rw [noticeFetchWork_of_chooses (s := s.turn .exec) hc,
    fetchFrom_of_not_finds (s := s.turn .exec) hf]
  rfl

theorem noticeFetch_answers_account (h : s.Serving .noticeFetch r)
    (hc : s.Chooses (byteAt r.params 0) g) (hf : s.Finds g i) :
    s.Answers .noticeFetch r (s.fetchAccount g i).1 (s.fetchAccount g i).2 := by
  refine answers_of_grantRequest h rfl (exec_noticeFetch s) ?_
  rw [noticeFetchWork_of_chooses (s := s.turn .exec) hc,
    fetchFrom_of_finds (s := s.turn .exec) hf, fetchAccount_turn]

end

/-- Settles O50: the fetch goes to the group it chooses and the lowest account that qualifies. The state
of a fetch that returns no CLOSED is `fetchCleared`; a fetch that returns CLOSED frees the slot in it. -/
theorem noticeFetchReturnsOneAccount : Obligations.NoticeFetchReturnsOneAccount := by
  intro s r h
  refine ⟨?_, fun hany hnone => ?_, fun hbad hne => ?_⟩
  · intro g hc served
    have hserved : ∀ n : Notices, n.update g Group.serve = served n := fun n => by
      rw [Notices.update, serve_eq]
    refine ⟨fun hf => ?_, ?_⟩
    · rw [← hserved]
      exact noticeFetch_answers_none h hc hf
    · intro i hf a kinds freed
      have hg := group_of_finds hf
      have hstate : (s.fetchAccount g i).1 =
          if freed then (fetchCleared s g i).freeSlot i else fetchCleared s g i := rfl
      refine ⟨(s.fetchAccount g i).1,
        (s.clearKinds i (if freed then BitVec.allOnes 7 else kinds)).notices,
        noticeFetch_answers_account h hc hf, fetchAccount_sameElsewhere s g i,
        clearKinds_lost_fetched hg freed, fun hno => ?_, fun hyes => ?_⟩
      · rw [hstate, hno, ← hserved]
        exact ⟨(account_fetchCleared s g i i).trans (if_pos rfl), fetchCleared_eq s g i⟩
      · rw [hstate, hyes, ← hserved]
        exact ⟨(State.account_freeSlot _ i i).trans (if_pos rfl), freeSlot_fetchCleared_eq s g i hg⟩
  · exact answers_of_grantRequest h rfl (exec_noticeFetch s)
      (noticeFetchWork_of_no_raised (s := s.turn .exec) hany hnone)
  · exact refuses_of_grantRequest h rfl (exec_noticeFetch s) (noticeFetchWork_of_bad hbad hne)

end Sys2Proof.Proofs.NoticeRequests

/-! ### Captures one after the other: what they leave of the snapshot (R150, R151) -/

namespace Sys2Proof.Proofs.SnapshotCaptures

open Sys2Proof Sys2Proof.Machine

/-! The slots of a sweep step. -/

/-- The slots from a cursor to fifteen above it, in ascending order (R151). -/
def stepSlots (cursor : Nat) : List Slot :=
  allSlots.filter fun i => decide (cursor ≤ i.val) && decide (i.val < cursor + 16)

section
variable {cursor : Nat} {i : Slot}

theorem mem_stepSlots : i ∈ stepSlots cursor ↔ cursor ≤ i.val ∧ i.val < cursor + 16 := by
  simp [stepSlots]

theorem nodup_stepSlots (cursor : Nat) : (stepSlots cursor).Nodup :=
  (List.nodup_finRange 1024).filter _

/-- The sixteen numbers from the cursor, those that number no slot left out, are the slots of the
step: both lists rise and hold the same slots. -/
theorem filterMap_below_eq_stepSlots (cursor : Nat) :
    ((List.range 16).map fun j => cursor + j).filterMap (below 1024) = stepSlots cursor := by
  have hnumbers : (((List.range 16).map fun j => cursor + j).filterMap (below 1024)).Pairwise
      (· < ·) := by
    refine List.Pairwise.filterMap (R := (· < ·)) _ (fun m n hmn i hi j hj => ?_) ?_
    · rw [below_eq_some] at hi hj
      exact Fin.lt_def.mpr (by omega)
    · exact List.pairwise_lt_range.map _ fun m n h => Nat.add_lt_add_left h cursor
  have hslots : (stepSlots cursor).Pairwise (· < ·) := (List.pairwise_lt_finRange 1024).filter _
  have hmem : ∀ i, i ∈ ((List.range 16).map fun j => cursor + j).filterMap (below 1024) ↔
      i ∈ stepSlots cursor := by
    intro i
    rw [List.mem_filterMap, mem_stepSlots]
    constructor
    · rintro ⟨n, hn, hi⟩
      rw [below_eq_some] at hi
      obtain ⟨j, hj, rfl⟩ := List.mem_map.mp hn
      rw [List.mem_range] at hj
      omega
    · rintro ⟨hlow, hhigh⟩
      refine ⟨i.val, List.mem_map.mpr ⟨i.val - cursor, ?_, ?_⟩, below_eq_some.mpr rfl⟩
      · rw [List.mem_range]
        omega
      · omega
  exact List.Perm.eq_of_pairwise (le := (· < ·))
    (fun _ _ _ _ hlt hgt => absurd hgt (Fin.lt_asymm hlt)) hnumbers hslots
    ((List.perm_ext_iff_of_nodup (hnumbers.imp Fin.ne_of_lt) (nodup_stepSlots cursor)).mpr hmem)

end

/-! A list of slots captured in turn. -/

/-- The snapshot `sn` with each slot of a list captured, where it was not, as its record stands in
`s`. -/
def captureAll (s : State) (is : List Slot) (sn : Snapshot) : Snapshot :=
  is.foldl (fun sn i => sn.captureOnce i (s.account i)) sn

/-- The records that captures of a list of slots add to the totals of `sn`: those of the slots that
are uncaptured and not FREE. -/
def taken (s : State) (is : List Slot) (sn : Snapshot) : List AccountImage :=
  (is.filter fun i => !(sn.shadow i).captured && !s.isFree i).map fun i => (s.account i).image

/-- What the captures of a list of slots leave: the shadows of the list, the totals, and all else as it
was. -/
structure CapturedAll (s : State) (is : List Slot) (old sn : Snapshot) : Prop where
  inside : ∀ i ∈ is, (old.shadow i).captured = false →
    sn.shadow i = { captured := true, fields := (s.account i).shadowFields }
  outside : ∀ i, i ∉ is ∨ (old.shadow i).captured = true → sn.shadow i = old.shadow i
  present : sn.present = old.present + (taken s is old).length
  consumption : sn.consumptionSum =
    ((taken s is old).map fun a => a.consumption.setWidth 48).foldl (· + ·) old.consumptionSum
  balance : sn.balanceSum =
    ((taken s is old).map fun a => a.balance.signExtend 48).foldl (· + ·) old.balanceSum
  rest : sn.state = old.state ∧ sn.id = old.id ∧ sn.cutStamp = old.cutStamp ∧
    sn.cursor = old.cursor

section
variable {s : State} {is : List Slot} {i : Slot} {sn sn' : Snapshot}

/-- The records taken depend on the shadows of the list alone. -/
theorem taken_congr (h : ∀ j ∈ is, sn'.shadow j = sn.shadow j) : taken s is sn' = taken s is sn := by
  unfold taken
  rw [List.filter_congr fun j hj => by rw [h j hj]]

theorem taken_cons_of_captured (h : (sn.shadow i).captured = true) :
    taken s (i :: is) sn = taken s is sn := by
  simp [taken, h]

theorem taken_cons_of_uncaptured (h : (sn.shadow i).captured = false) :
    taken s (i :: is) sn =
      if (s.account i).image.state = .free then taken s is sn
      else (s.account i).image :: taken s is sn := by
  by_cases hf : (s.account i).image.state = .free <;> simp [taken, State.isFree, h, hf]

/-- A capture of one slot, then those of a list that does not hold it. -/
theorem CapturedAll.cons (hc : (sn.shadow i).captured = false) (hi : i ∉ is)
    (hone : sn.Captured sn' i (s.account i)) {out : Snapshot} (hall : CapturedAll s is sn' out) :
    CapturedAll s (i :: is) sn out := by
  have hother : ∀ j ∈ is, sn'.shadow j = sn.shadow j := fun j hj =>
    hone.others j fun e => hi (e ▸ hj)
  obtain ⟨hstate, hid, hstamp, hcursor⟩ := hone.rest
  obtain ⟨hstate', hid', hstamp', hcursor'⟩ := hall.rest
  have hpresent := hall.present
  have hconsumption := hall.consumption
  have hbalance := hall.balance
  rw [taken_congr hother, hone.present] at hpresent
  rw [taken_congr hother, hone.consumption] at hconsumption
  rw [taken_congr hother, hone.balance] at hbalance
  refine ⟨?_, ?_, ?_, ?_, ?_, hstate'.trans hstate, hid'.trans hid, hstamp'.trans hstamp,
    hcursor'.trans hcursor⟩
  · intro j hj hjc
    rcases List.mem_cons.mp hj with rfl | hj
    · rw [hall.outside j (.inl hi), hone.shadow]
    · exact hall.inside j hj (by rw [hother j hj]; exact hjc)
  · intro j hj
    have hne : j ≠ i := by
      rintro rfl
      rcases hj with hj | hj
      · exact hj List.mem_cons_self
      · rw [hc] at hj; cases hj
    rw [hall.outside j, hone.others j hne]
    rw [hone.others j hne]
    exact hj.imp_left fun h hmem => h (List.mem_cons_of_mem i hmem)
  all_goals rw [taken_cons_of_uncaptured hc]
  · rw [hpresent]
    split
    · rfl
    · rw [List.length_cons]
      omega
  · rw [hconsumption]
    split <;> simp
  · rw [hbalance]
    split <;> simp

/-- Captures in turn of different slots leave what `CapturedAll` says. -/
theorem captureAll_capturedAll (hn : is.Nodup) (sn : Snapshot) :
    CapturedAll s is sn (captureAll s is sn) := by
  induction is generalizing sn with
  | nil => exact ⟨fun _ h => by simp at h, fun _ _ => rfl, rfl, rfl, rfl, rfl, rfl, rfl, rfl⟩
  | cons i is ih =>
    obtain ⟨hi, hn⟩ := List.nodup_cons.mp hn
    have hfold : captureAll s (i :: is) sn = captureAll s is (sn.captureOnce i (s.account i)) := rfl
    rw [hfold, Snapshot.captureOnce]
    split
    · next hc =>
      have h := ih hn sn
      refine ⟨fun j hj hjc => ?_, fun j hj => ?_, ?_, ?_, ?_, h.rest⟩
      · rcases List.mem_cons.mp hj with rfl | hj
        · rw [hc] at hjc; cases hjc
        · exact h.inside j hj hjc
      · exact h.outside j (hj.imp_left fun hmem hj => hmem (List.mem_cons_of_mem i hj))
      all_goals rw [taken_cons_of_captured hc]
      · exact h.present
      · exact h.consumption
      · exact h.balance
    · next hc =>
      exact .cons (Bool.eq_false_iff.mpr hc) hi (Snapshot.capture_captured i sn (s.account i))
        (ih hn _)

end

/-! The sweep step. -/

section
variable (s : State)

/-- A sweep step captures its slots in turn, then raises the cursor. -/
theorem sweep_eq :
    s.sweep = { s with
      snapshot :=
        { captureAll s (stepSlots s.snapshot.cursor) s.snapshot with
          cursor := s.snapshot.cursor + 16
          state := if 1024 ≤ s.snapshot.cursor + 16 then .ready
            else (captureAll s (stepSlots s.snapshot.cursor) s.snapshot).state } } := by
  have hfold : ((List.range 16).map fun j => s.snapshot.cursor + j).foldl s.sweepSlot s.snapshot =
      captureAll s (stepSlots s.snapshot.cursor) s.snapshot := by
    rw [← filterMap_below_eq_stepSlots, captureAll, List.foldl_filterMap]
    congr 1
    funext sn n
    unfold State.sweepSlot
    cases below 1024 n <;> rfl
  rw [State.sweep, hfold]

theorem captureAll_turn (c : Claimant) (is : List Slot) (sn : Snapshot) :
    captureAll (s.turn c) is sn = captureAll s is sn := rfl

/-- A sweep step does not depend on whose turn it is. -/
theorem sweep_turn (c : Claimant) : (s.turn c).sweep = s.sweep.turn c := by
  rw [sweep_eq, sweep_eq]
  rfl

theorem exec_sweepStep :
    exec .sweepStep s = .next (if s.granted = some .sweep then (s.turn .sweep).sweep else s) := rfl

end

/-- The SWEEP claimant is granted only while the snapshot is SWEEPING (R10). -/
theorem sweeping_of_granted {s : State} (h : s.granted = some .sweep) :
    s.snapshot.state = .sweeping := by
  obtain ⟨_, _, hclaim⟩ := State.granted_free h
  exact (s.claims_iff .sweep).mp hclaim

/-- Settles O24: the step is `captureAll` over the sixteen slots from the cursor, which leaves their
shadows and adds the records taken to the totals. -/
theorem sweepStepCapturesSixteenSlots : Obligations.SweepStepCapturesSixteenSlots := by
  intro s hg hcursor inStep records
  have h := captureAll_capturedAll (s := s) (nodup_stepSlots s.snapshot.cursor) s.snapshot
  have hsweep := sweep_eq s
  generalize captureAll s (stepSlots s.snapshot.cursor) s.snapshot = sn at h hsweep
  have hin : ∀ i, inStep i = true ↔
      i ∈ stepSlots s.snapshot.cursor ∧ (s.snapshot.shadow i).captured = false := by
    intro i
    simp [inStep, mem_stepSlots]
  have hrecords : taken s (stepSlots s.snapshot.cursor) s.snapshot = records := by
    simp only [taken, stepSlots, List.filter_filter, records, inStep]
    congr 2
    funext i
    ac_rfl
  obtain ⟨hstate, hid, hstamp, _⟩ := h.rest
  refine ⟨s.sweep.snapshot, ?_, ?_, ?_, ?_, ?_, ?_, ?_, ?_, ?_, ?_⟩
  · rw [exec_sweepStep, if_pos hg, sweep_turn, hsweep]
    rfl
  all_goals rw [hsweep]
  · intro i hi
    obtain ⟨hmem, hc⟩ := (hin i).mp hi
    have hshadow := h.inside i hmem hc
    refine ⟨fun hf => hshadow.trans ?_, fun hf => hshadow.trans ?_⟩
    · rw [Record.shadowFields, if_pos (eq_of_beq hf)]
    · rw [Record.shadowFields, if_neg (ne_of_beq_false hf)]
  · intro i hi
    refine h.outside i ?_
    by_cases hc : (s.snapshot.shadow i).captured = true
    · exact .inr hc
    · refine .inl fun hmem => ?_
      rw [(hin i).mpr ⟨hmem, Bool.eq_false_iff.mpr hc⟩] at hi
      cases hi
  · exact hrecords ▸ h.present
  · exact hrecords ▸ h.consumption
  · exact hrecords ▸ h.balance
  · show (if 1024 ≤ s.snapshot.cursor + 16 then SnapshotState.ready else sn.state) = _
    have hend : 1024 ≤ s.snapshot.cursor + 16 ↔ s.snapshot.cursor + 16 = 1024 := by omega
    simp only [hend, hstate, sweeping_of_granted hg]
  · exact hid
  · exact hstamp

end Sys2Proof.Proofs.SnapshotCaptures

/-! ### The requests of the snapshot unit, and what they answer (R149, R155 to R157) -/

namespace Sys2Proof.Proofs.SnapshotRequests

open Sys2Proof Sys2Proof.Machine
open Sys2Proof.Proofs.DiscoveryRequests (answers_of_grantRequest refuses_of_grantRequest)
open Sys2Proof.Proofs.NoticeRequests (copyBeforeWrite_turn_eq)

/-! The commands. -/

theorem exec_snapshotTake (s : State) :
    exec .snapshotTake s = .next (s.grantRequest .snapshotTake snapshotTakeWork) := rfl

theorem exec_snapshotRead (s : State) :
    exec .snapshotRead s = .next (s.grantRequest .snapshotRead snapshotReadWork) := rfl

theorem exec_snapshotTotals (s : State) :
    exec .snapshotTotals s = .next (s.grantRequest .snapshotTotals snapshotTotalsWork) := rfl

theorem exec_snapshotRelease (s : State) :
    exec .snapshotRelease s = .next (s.grantRequest .snapshotRelease snapshotReleaseWork) := rfl

/-! What the work of each request does, in each of its cases. -/

section
variable {s : State} {ps : List Byte} {i : Slot}

theorem snapshotTakeWork_of_idle (h : s.snapshot.state = .idle) :
    snapshotTakeWork ps s =
      ({ s with snapshot := s.snapshot.cut s.supv.calendar },
        { result := .started, bytes := bytes16 (s.snapshot.id + 1) }) :=
  if_pos h

theorem snapshotTakeWork_of_not_idle (h : s.snapshot.state ≠ .idle) :
    snapshotTakeWork ps s = s.refuse .snapshotActive :=
  if_neg h

theorem snapshotTotalsWork_of_ready (h : s.snapshot.state = .ready) :
    snapshotTotalsWork ps s = (s, .ok s.snapshot.totalBytes) := by
  rw [snapshotTotalsWork, h]

theorem snapshotTotalsWork_of_sweeping (h : s.snapshot.state = .sweeping) :
    snapshotTotalsWork ps s = s.refuse .busy := by
  rw [snapshotTotalsWork, h]

theorem snapshotTotalsWork_of_idle (h : s.snapshot.state = .idle) :
    snapshotTotalsWork ps s = s.refuse .noSnapshot := by
  rw [snapshotTotalsWork, h]

theorem slotAt_of_toNat (h : (halfAt ps 0).toNat = i.val) : slotAt ps 0 = some i :=
  below_eq_some.mpr h

theorem snapshotReadWork_of_bad (h : 1023 < (halfAt ps 0).toNat) :
    snapshotReadWork ps s = s.refuse .badParam := by
  have hslot : slotAt ps 0 = none := below_eq_none.mpr h
  rw [snapshotReadWork, hslot]

theorem snapshotReadWork_of_idle (hi : (halfAt ps 0).toNat = i.val) (h : s.snapshot.state = .idle) :
    snapshotReadWork ps s = s.refuse .noSnapshot := by
  rw [snapshotReadWork, slotAt_of_toNat hi]
  exact if_pos h

/-- A read that finds the slot absent, after the capture on demand (R155). -/
theorem snapshotReadWork_of_absent (hi : (halfAt ps 0).toNat = i.val)
    (h : s.snapshot.state ≠ .idle)
    (hf : ((s.copyBeforeWrite i).snapshot.shadow i).fields = none) :
    snapshotReadWork ps s = (s.copyBeforeWrite i, .bare .absent) := by
  simp only [snapshotReadWork, slotAt_of_toNat hi, if_neg h, hf]

/-- A read that finds the slot present, after the capture on demand (R155). -/
theorem snapshotReadWork_of_present (hi : (halfAt ps 0).toNat = i.val)
    (h : s.snapshot.state ≠ .idle) {f : ShadowFields}
    (hf : ((s.copyBeforeWrite i).snapshot.shadow i).fields = some f) :
    snapshotReadWork ps s =
      (s.copyBeforeWrite i, .ok (shadowBytes (s.copyBeforeWrite i).snapshot.id i f)) := by
  simp only [snapshotReadWork, slotAt_of_toNat hi, if_neg h, hf]

end

/-! The bytes of the answers. -/

/-- A capture keeps the id of the snapshot. -/
theorem copyBeforeWrite_snapshot_id (s : State) (i : Slot) :
    (s.copyBeforeWrite i).snapshot.id = s.snapshot.id := by
  rw [s.copyBeforeWrite_snapshot]
  split
  · obtain ⟨_, hid, _⟩ := (Snapshot.capture_captured i s.snapshot (s.account i)).rest
    exact hid
  · rfl

/-- A two-byte field read and written again. -/
theorem bytes16_halfAt (ps : List Byte) (n : Nat) :
    bytes16 (halfAt ps n) = [byteAt ps n, byteAt ps (n + 1)] := by
  have hhigh : (halfAt ps n).extractLsb' 8 8 = byteAt ps n := BitVec.extractLsb'_append_eq_left
  have hlow : (halfAt ps n).extractLsb' 0 8 = byteAt ps (n + 1) :=
    BitVec.extractLsb'_append_eq_right
  rw [bytes16, hhigh, hlow]

/-- The slot number of a request, sent back (R194). -/
theorem slotBytes_of_toNat {ps : List Byte} {i : Slot} (h : (halfAt ps 0).toNat = i.val) :
    slotBytes i = [byteAt ps 0, byteAt ps 1] := by
  rw [slotBytes, num16, ← h, BitVec.ofNat_toNat, BitVec.setWidth_eq, bytes16_halfAt]

/-- The response of SNAPSHOT_READ, field by field (R155, R195). -/
theorem shadowBytes_of_toNat {ps : List Byte} {i : Slot} (h : (halfAt ps 0).toNat = i.val)
    (id : Half) (f : ShadowFields) :
    shadowBytes id i f = bytes16 id ++ [byteAt ps 0, byteAt ps 1] ++ bytes48 f.identity ++
      num8 f.tariffClass.val ++ [f.state.code, yesNo f.suspended] ++ bytes32 f.balance ++
      bytes32 f.consumption ++ bytes16 f.reportCount := by
  rw [shadowBytes, slotBytes_of_toNat h]
  simp only [List.append_assoc, List.cons_append, List.nil_append]

/-- Settles O25: each request is served in its grant, so its command answers what its work gives in the
snapshot's state. -/
theorem snapshotRequestsAnswer : Obligations.SnapshotRequestsAnswer := by
  refine ⟨fun s r h => ⟨fun hidle => ?_, fun hbusy => ?_⟩,
    fun s r h => ⟨fun hready => ?_, fun hsweeping => ?_, fun hidle => ?_⟩, fun s r h => ?_⟩
  · exact ⟨s.snapshot.cut s.supv.calendar,
      answers_of_grantRequest h rfl (exec_snapshotTake s)
        (snapshotTakeWork_of_idle (s := s.turn .exec) hidle),
      rfl, rfl, rfl, rfl, rfl, rfl, rfl, fun _ => rfl⟩
  · exact refuses_of_grantRequest h rfl (exec_snapshotTake s)
      (snapshotTakeWork_of_not_idle (s := s.turn .exec) hbusy)
  · exact answers_of_grantRequest h rfl (exec_snapshotTotals s)
      (snapshotTotalsWork_of_ready (s := s.turn .exec) hready)
  · exact refuses_of_grantRequest h rfl (exec_snapshotTotals s)
      (snapshotTotalsWork_of_sweeping (s := s.turn .exec) hsweeping)
  · exact refuses_of_grantRequest h rfl (exec_snapshotTotals s)
      (snapshotTotalsWork_of_idle (s := s.turn .exec) hidle)
  · exact answers_of_grantRequest h rfl (exec_snapshotRelease s) rfl

/-- Settles O26: outside IDLE the work is a copy-before-write of the slot, and the answer is read off
the shadow that it leaves. -/
theorem snapshotReadCapturesOnDemand : Obligations.SnapshotReadCapturesOnDemand := by
  intro s r h
  refine ⟨fun hbad => ?_, fun i hi => ⟨fun hidle => ?_, fun hbusy =>
    ⟨(s.copyBeforeWrite i).snapshot, fun hsweeping huncaptured => ?_, fun hkept => ?_,
      fun hf => ?_, fun f hf => ?_⟩⟩⟩
  · exact refuses_of_grantRequest h rfl (exec_snapshotRead s) (snapshotReadWork_of_bad hbad)
  · exact refuses_of_grantRequest h rfl (exec_snapshotRead s)
      (snapshotReadWork_of_idle (s := s.turn .exec) hi hidle)
  · rw [s.copyBeforeWrite_snapshot, if_pos ⟨hsweeping, huncaptured⟩]
    exact Snapshot.capture_captured i s.snapshot (s.account i)
  · rw [s.copyBeforeWrite_snapshot, if_neg]
    rintro ⟨hsweeping, huncaptured⟩
    rcases hkept with hready | hcaptured
    · cases hsweeping.symm.trans hready
    · cases huncaptured.symm.trans hcaptured
  · rw [← s.copyBeforeWrite_eq i]
    refine answers_of_grantRequest h rfl (exec_snapshotRead s) ?_
    rw [← copyBeforeWrite_turn_eq]
    refine snapshotReadWork_of_absent (s := s.turn .exec) hi hbusy ?_
    rwa [copyBeforeWrite_turn_eq]
  · rw [← s.copyBeforeWrite_eq i, ← shadowBytes_of_toNat hi, ← copyBeforeWrite_snapshot_id s i]
    refine answers_of_grantRequest h rfl (exec_snapshotRead s) ?_
    have hturn := copyBeforeWrite_turn_eq s i .exec
    rw [snapshotReadWork_of_present (s := s.turn .exec) hi hbusy (by rw [hturn]; exact hf), hturn]
    rfl

end Sys2Proof.Proofs.SnapshotRequests

/-! ### The totals of the snapshot at every step (R148 to R153) -/

namespace Sys2Proof.Proofs.SnapshotTotals

open Sys2Proof Sys2Proof.Machine
open Sys2Proof.Proofs.SnapshotCaptures
open Sys2Proof.Proofs.NoticeRequests
  (copyBeforeWrite_snapshot_again fetchCleared fetchAccount_eq)

/-! Captures keep the totals. -/

/-- The part of `Snapshot.Agrees` that a capture touches: the totals are the sums over the present
shadows, and what is uncaptured is absent (R150). -/
structure TotalsAgree (sn : Snapshot) : Prop where
  present : sn.present = sn.presentFields.length
  consumption : sn.consumptionSum =
    (sn.presentFields.map fun f => f.consumption.setWidth 48).foldl (· + ·) 0
  balance : sn.balanceSum =
    (sn.presentFields.map fun f => f.balance.signExtend 48).foldl (· + ·) 0
  absent : ∀ i, (sn.shadow i).captured = false → (sn.shadow i).fields = none

theorem totalsAgree_of_agrees {sn : Snapshot} (h : sn.Agrees) : TotalsAgree sn :=
  ⟨h.present, h.consumption, h.balance, h.absent⟩

/-- Functions that agree on the items of a list choose the same. -/
theorem filterMap_eq_of_forall_mem {α β : Type} {f g : α → Option β} {xs : List α}
    (h : ∀ x ∈ xs, f x = g x) : xs.filterMap f = xs.filterMap g := by
  have hmap : ∀ k : α → Option β, xs.filterMap k = (xs.map k).filterMap id := fun k => by
    rw [List.filterMap_map]
    rfl
  rw [hmap f, hmap g, List.map_congr_left h]

/-- The order of its items has no part in a sum. -/
theorem foldl_add_of_perm {w : Nat} {xs ys : List (BitVec w)} (h : xs.Perm ys) (a : BitVec w) :
    xs.foldl (· + ·) a = ys.foldl (· + ·) a :=
  h.foldl_eq' (fun x _ y _ z => by rw [BitVec.add_assoc, BitVec.add_comm x y, BitVec.add_assoc]) a

section
variable {sn sn' : Snapshot} {i : Slot} {r : Record}

/-- A capture of an absent slot adds the fields of its record to those present, in some place. -/
theorem presentFields_captured (hi : (sn.shadow i).fields = none) (h : sn.Captured sn' i r) :
    sn'.presentFields.Perm (sn.presentFields ++ r.shadowFields.toList) := by
  have hsplit : allSlots.Perm (i :: allSlots.erase i) := List.perm_cons_erase (mem_allSlots i)
  have hrest : (allSlots.erase i).filterMap (fun j => (sn'.shadow j).fields) =
      (allSlots.erase i).filterMap fun j => (sn.shadow j).fields :=
    filterMap_eq_of_forall_mem fun j hj => by
      obtain ⟨hne, _⟩ := (List.nodup_finRange 1024).mem_erase_iff.mp hj
      rw [h.others j hne]
  have hold : sn.presentFields.Perm ((allSlots.erase i).filterMap fun j => (sn.shadow j).fields) := by
    have hperm := hsplit.filterMap fun j => (sn.shadow j).fields
    rwa [List.filterMap_cons_none (f := fun j => (sn.shadow j).fields) hi] at hperm
  have hshadow : (sn'.shadow i).fields = r.shadowFields := by rw [h.shadow]
  refine (hsplit.filterMap fun j => (sn'.shadow j).fields).trans ?_
  cases hf : r.shadowFields with
  | none =>
    rw [List.filterMap_cons_none (f := fun j => (sn'.shadow j).fields) (hshadow.trans hf), hrest,
      Option.toList_none, List.append_nil]
    exact hold.symm
  | some f =>
    rw [List.filterMap_cons_some (f := fun j => (sn'.shadow j).fields) (hshadow.trans hf), hrest,
      Option.toList_some]
    exact (hold.symm.cons f).trans (List.perm_append_singleton f _).symm

/-- The totals of a capture are the sums over one list of present fields more: a FREE slot adds
nothing to the sums and nothing to the list. -/
theorem totalsAgree_captured (hs : TotalsAgree sn) (hc : (sn.shadow i).captured = false)
    (h : sn.Captured sn' i r) : TotalsAgree sn' := by
  have hperm := presentFields_captured (hs.absent i hc) h
  refine ⟨?_, ?_, ?_, fun j hj => ?_⟩
  · rw [h.present, hs.present, hperm.length_eq, List.length_append]
    by_cases hf : r.image.state = .free <;> simp [Record.shadowFields, hf]
  · rw [h.consumption, hs.consumption, foldl_add_of_perm (hperm.map _), List.map_append, List.foldl_append]
    by_cases hf : r.image.state = .free <;> simp [Record.shadowFields, hf]
  · rw [h.balance, hs.balance, foldl_add_of_perm (hperm.map _), List.map_append, List.foldl_append]
    by_cases hf : r.image.state = .free <;> simp [Record.shadowFields, hf]
  · have hne : j ≠ i := by
      rintro rfl
      rw [h.shadow] at hj
      cases hj
    rw [h.others j hne] at hj ⊢
    exact hs.absent j hj

theorem captureOnce_totalsAgree (hs : TotalsAgree sn) : TotalsAgree (sn.captureOnce i r) := by
  rw [Snapshot.captureOnce]
  split
  · exact hs
  · next hc =>
    exact totalsAgree_captured hs (Bool.eq_false_iff.mpr hc) (Snapshot.capture_captured i sn r)

theorem captureAll_totalsAgree {s : State} (is : List Slot) (hs : TotalsAgree sn) :
    TotalsAgree (captureAll s is sn) := by
  induction is generalizing sn with
  | nil => exact hs
  | cons i is ih => exact ih (captureOnce_totalsAgree hs)

/-- A capture keeps the whole agreement: cursor and state stand, and no slot is uncaptured again. -/
theorem agrees_captured (hs : sn.Agrees) (hc : (sn.shadow i).captured = false)
    (h : sn.Captured sn' i r) : sn'.Agrees := by
  obtain ⟨hpresent, hconsumption, hbalance, habsent⟩ :=
    totalsAgree_captured (totalsAgree_of_agrees hs) hc h
  obtain ⟨hstate, _, _, hcursor⟩ := h.rest
  refine ⟨hpresent, hconsumption, hbalance, habsent, ?_, ?_, ?_⟩
  · rw [hstate, hcursor]
    intro hne j hj
    by_cases hji : j = i
    · rw [hji, h.shadow]
    · rw [h.others j hji]
      exact hs.swept hne j hj
  · rw [hstate, hcursor]
    exact hs.sweeping
  · rw [hstate, hcursor]
    exact hs.ready

/-- Without a present shadow every total is 0. -/
theorem agrees_of_shadows_nil (hshadows : sn.shadows = []) (hpresent : sn.present = 0)
    (hconsumption : sn.consumptionSum = 0) (hbalance : sn.balanceSum = 0) (hcursor : sn.cursor = 0)
    (hstate : sn.state ≠ .ready) : sn.Agrees := by
  have hblank : ∀ i, sn.shadow i = Shadow.blank := fun i => by rw [Snapshot.shadow, hshadows]; rfl
  have hnone : sn.presentFields = [] :=
    List.filterMap_eq_nil_iff.mpr fun i _ => by rw [hblank]; rfl
  refine ⟨by rw [hnone, hpresent]; rfl, by rw [hnone, hconsumption]; rfl,
    by rw [hnone, hbalance]; rfl, fun i _ => by rw [hblank]; rfl, fun _ i hi => ?_, fun _ => ?_,
    fun h => absurd h hstate⟩
  · rw [hcursor] at hi
    exact absurd hi (Nat.not_lt_zero _)
  · rw [hcursor]
    decide

end

section
variable {s : State}

theorem copyBeforeWrite_agrees (hs : s.snapshot.Agrees) (i : Slot) :
    (s.copyBeforeWrite i).snapshot.Agrees := by
  rw [s.copyBeforeWrite_snapshot]
  split
  · next h => exact agrees_captured hs h.2 (Snapshot.capture_captured i s.snapshot (s.account i))
  · exact hs

/-- A sweep step captures what its sixteen slots still lack, and goes on below 400h or is READY there
(R151). -/
theorem sweep_agrees (hs : s.snapshot.Agrees) (hsweeping : s.snapshot.state = .sweeping) :
    s.sweep.snapshot.Agrees := by
  have hall := captureAll_capturedAll (s := s) (nodup_stepSlots s.snapshot.cursor) s.snapshot
  have htotals := captureAll_totalsAgree (s := s) (stepSlots s.snapshot.cursor)
    (totalsAgree_of_agrees hs)
  rw [sweep_eq]
  generalize captureAll s (stepSlots s.snapshot.cursor) s.snapshot = sn at hall htotals
  obtain ⟨hmod, hlt⟩ := hs.sweeping hsweeping
  obtain ⟨hstate, _, _, _⟩ := hall.rest
  have hstate := hstate.trans hsweeping
  refine ⟨htotals.present, htotals.consumption, htotals.balance, htotals.absent,
    fun _ i hi => ?_, fun h => ?_, fun h => ?_⟩
  · show (sn.shadow i).captured = true
    by_cases hc : (s.snapshot.shadow i).captured = true
    · rw [hall.outside i (.inr hc), hc]
    · have hge : s.snapshot.cursor ≤ i.val := by
        refine Nat.le_of_not_lt fun hbelow => hc (hs.swept ?_ i hbelow)
        rw [hsweeping]
        decide
      rw [hall.inside i (mem_stepSlots.mpr ⟨hge, hi⟩) (Bool.eq_false_iff.mpr hc)]
  · show (s.snapshot.cursor + 16) % 16 = 0 ∧ s.snapshot.cursor + 16 < 1024
    by_cases hend : 1024 ≤ s.snapshot.cursor + 16
    · rw [if_pos hend] at h
      cases h
    · omega
  · show s.snapshot.cursor + 16 = 1024
    by_cases hend : 1024 ≤ s.snapshot.cursor + 16
    · omega
    · rw [if_neg hend, hstate] at h
      cases h

end

/-! What a command can do to the snapshot. -/

/-- What a command leaves of the snapshot of `s`: it keeps it, captures one slot before it writes there
(R12), makes a sweep step (R151), cuts (R149), releases (R157), or is a reset (R159). -/
inductive SnapshotMove (s : State) : Snapshot → Prop
  | kept : SnapshotMove s s.snapshot
  | captured (i : Slot) : SnapshotMove s (s.copyBeforeWrite i).snapshot
  | swept (h : s.snapshot.state = .sweeping) : SnapshotMove s s.sweep.snapshot
  | cut : SnapshotMove s (s.snapshot.cut s.supv.calendar)
  | released : SnapshotMove s { s.snapshot with state := .idle }
  | reset : SnapshotMove s .reset

section
variable {s : State} {sn : Snapshot}

/-- Every move keeps the agreement of the totals with the shadows. -/
theorem SnapshotMove.agrees (h : SnapshotMove s sn) (hs : s.snapshot.Agrees) : sn.Agrees := by
  cases h with
  | kept => exact hs
  | captured i => exact copyBeforeWrite_agrees hs i
  | swept hsweeping => exact sweep_agrees hs hsweeping
  | cut => exact agrees_of_shadows_nil rfl rfl rfl rfl rfl nofun
  | released =>
    exact ⟨hs.present, hs.consumption, hs.balance, hs.absent, fun h => absurd rfl h,
      nofun, nofun⟩
  | reset => exact agrees_of_shadows_nil rfl rfl rfl rfl rfl nofun

theorem SnapshotMove.of_eq (h : sn = s.snapshot) : SnapshotMove s sn := h ▸ .kept

theorem SnapshotMove.of_copyBeforeWrite {i : Slot} (h : sn = (s.copyBeforeWrite i).snapshot) :
    SnapshotMove s sn := h ▸ .captured i

/-- A move does not depend on whose turn it is. -/
theorem SnapshotMove.of_turn {c : Claimant} (h : SnapshotMove (s.turn c) sn) : SnapshotMove s sn := by
  cases h with
  | kept => exact .kept
  | captured i => exact .of_copyBeforeWrite (s.copyBeforeWrite_turn i c)
  | swept hsweeping =>
    rw [sweep_turn]
    exact .swept hsweeping
  | cut => exact .cut
  | released => exact .released
  | reset => exact .reset

/-- A granted request moves the snapshot as its work does. -/
theorem grantRequest_move (s : State) (q : Req) {work : List Byte → State → State × Answer}
    (h : ∀ ps t, SnapshotMove t (work ps t).1.snapshot) :
    SnapshotMove s (s.grantRequest q work).snapshot := by
  rcases s.grantRequest_cases q work with e | ⟨r, _, _, _, _, e⟩
  · rw [e]; exact .kept
  · rw [e]; exact (h _ _).of_turn

/-- A granted request whose work keeps the snapshot keeps it. -/
theorem grantRequest_kept (s : State) (q : Req) {work : List Byte → State → State × Answer}
    (h : ∀ ps t, (work ps t).1.snapshot = t.snapshot) :
    SnapshotMove s (s.grantRequest q work).snapshot :=
  grantRequest_move s q fun ps t => .of_eq (h ps t)

/-- A request without a grant whose work keeps the snapshot keeps it. -/
theorem directRequest_kept (s : State) (q : Req) {work : List Byte → State → State × Answer}
    (h : ∀ ps t, (work ps t).1.snapshot = t.snapshot) :
    SnapshotMove s (s.directRequest q work).snapshot := by
  rcases s.directRequest_cases q work with e | ⟨r, _, _, _, e⟩
  · rw [e]; exact .kept
  · rw [e]; exact .of_eq (h _ _)

/-- A request on an account moves the snapshot as its work on the slot does. -/
theorem onAccount_move {slot : Option Slot} {work : Slot → State × Answer}
    (h : ∀ i, SnapshotMove s (work i).1.snapshot) :
    SnapshotMove s (s.onAccount slot work).1.snapshot := by
  unfold State.onAccount
  split
  · exact .kept
  · split
    · exact .kept
    · exact h _

end

/-! The work of the requests on accounts: at most the slot that it writes is captured, as it stood. -/

section
variable (s : State) (i : Slot)

theorem enrolAccount_snapshot (ix : Index) (a : AccountImage) :
    (s.enrolAccount i ix a).snapshot = (s.copyBeforeWrite i).snapshot := by
  simp [State.enrolAccount]

theorem changeAccount_move (f : AccountImage → AccountImage) {after : State → State}
    (h : ∀ t, (after t).snapshot = t.snapshot) :
    SnapshotMove s (s.changeAccount i f after).snapshot :=
  .of_copyBeforeWrite (i := i) (by simp [State.changeAccount, h])

/-- A change of one account that is answered with the state it leaves (R19, R21, R62). -/
theorem stateAnswer_move (f : AccountImage → AccountImage) {after : State → State}
    (h : ∀ t, (after t).snapshot = t.snapshot) :
    SnapshotMove s ((s.changeAccount i f after).stateAnswer i).1.snapshot :=
  changeAccount_move s i f h

theorem moveGroup_move (g : GroupNo) : SnapshotMove s (s.moveGroup i g).snapshot :=
  changeAccount_move s i _ fun _ => rfl

theorem retireAccount_move : SnapshotMove s (s.retireAccount i).snapshot :=
  changeAccount_move s i _ fun _ => State.setKind_snapshot ..

theorem adjustAccount_move (sum : Int) : SnapshotMove s (s.adjustAccount i sum).snapshot :=
  changeAccount_move s i _ fun t => by simp

theorem freeSlot_snapshot : (s.freeSlot i).snapshot = (s.copyBeforeWrite i).snapshot := by
  rw [State.freeSlot_eq]

/-- A fetch captures the account it finds, once, although it writes there twice when it frees the
slot (R138, R139). -/
theorem fetchAccount_snapshot (g : GroupNo) :
    (s.fetchAccount g i).1.snapshot = (s.copyBeforeWrite i).snapshot := by
  have hcleared : (fetchCleared s g i).snapshot = (s.copyBeforeWrite i).snapshot := by
    simp [fetchCleared]
  rw [fetchAccount_eq]
  dsimp only
  split
  · rw [freeSlot_snapshot, copyBeforeWrite_snapshot_again hcleared]
  · exact hcleared

end

section
variable (ps : List Byte) (s : State)

theorem enrolWork_move : SnapshotMove s (enrolWork ps s).1.snapshot := by
  unfold enrolWork
  split
  · exact .kept
  · split
    · exact .kept
    · split
      · split
        · exact .kept
        · split
          · exact .kept
          · split
            · exact .kept
            · exact .of_copyBeforeWrite (enrolAccount_snapshot ..)
      · exact .kept

theorem setClassWork_move : SnapshotMove s (setClassWork ps s).1.snapshot := by
  unfold setClassWork
  split
  · exact .kept
  · refine onAccount_move fun i => ?_
    split
    · exact .kept
    · exact stateAnswer_move s i _ fun t => t.evaluate_snapshot i

theorem setGroupWork_move : SnapshotMove s (setGroupWork ps s).1.snapshot := by
  unfold setGroupWork
  split
  · exact .kept
  · refine onAccount_move fun i => ?_
    split
    · exact .kept
    · dsimp only
      exact moveGroup_move s i _

theorem setLowWork_move : SnapshotMove s (setLowWork ps s).1.snapshot := by
  unfold setLowWork
  split
  · exact .kept
  · exact onAccount_move fun i => stateAnswer_move s i _ fun t => t.evaluate_snapshot i

theorem retireWork_move : SnapshotMove s (retireWork ps s).1.snapshot := by
  refine onAccount_move fun i => ?_
  split
  · exact .kept
  · dsimp only
    exact retireAccount_move s i

theorem purgeWork_move : SnapshotMove s (purgeWork ps s).1.snapshot :=
  onAccount_move (work := fun i => (s.freeSlot i, _)) fun i =>
    .of_copyBeforeWrite (freeSlot_snapshot s i)

theorem adjustWork_move : SnapshotMove s (adjustWork ps s).1.snapshot := by
  unfold adjustWork
  split
  · exact .kept
  · refine onAccount_move fun i => ?_
    dsimp only
    split
    · dsimp only
      exact adjustAccount_move s i _
    · exact .kept

theorem suspendWork_move : SnapshotMove s (suspendWork ps s).1.snapshot := by
  refine onAccount_move fun i => ?_
  dsimp only
  split
  · exact .kept
  · split
    · exact .kept
    · dsimp only
      exact changeAccount_move s i _ fun _ => rfl

theorem unsuspendWork_move : SnapshotMove s (unsuspendWork ps s).1.snapshot := by
  refine onAccount_move fun i => ?_
  dsimp only
  split
  · exact .kept
  · exact stateAnswer_move s i _ fun t => t.evaluate_snapshot i

theorem fetchFrom_move (g : GroupNo) : SnapshotMove s (s.fetchFrom g).1.snapshot := by
  unfold State.fetchFrom
  split
  · exact .of_copyBeforeWrite (fetchAccount_snapshot ..)
  · exact .kept

theorem noticeFetchWork_move : SnapshotMove s (noticeFetchWork ps s).1.snapshot := by
  unfold noticeFetchWork
  split
  · split
    · exact fetchFrom_move ..
    · exact .kept
  · split
    · exact fetchFrom_move ..
    · exact .kept

theorem noticeClearWork_move : SnapshotMove s (noticeClearWork ps s).1.snapshot := by
  unfold noticeClearWork
  split
  · exact .kept
  · refine onAccount_move fun i => ?_
    dsimp only
    split
    · exact .kept
    · exact .captured i

theorem snapshotTakeWork_move : SnapshotMove s (snapshotTakeWork ps s).1.snapshot := by
  unfold snapshotTakeWork
  split
  · exact .cut
  · exact .kept

theorem snapshotReadWork_move : SnapshotMove s (snapshotReadWork ps s).1.snapshot := by
  unfold snapshotReadWork
  split
  · exact .kept
  · next i _ =>
    dsimp only
    split
    · exact .kept
    · split <;> exact .captured i

theorem snapshotReleaseWork_move : SnapshotMove s (snapshotReleaseWork ps s).1.snapshot := .released

/-! The work of the requests that keep the snapshot. -/

theorem accountReadWork_move : SnapshotMove s (accountReadWork ps s).1.snapshot :=
  onAccount_move fun _ => .kept

theorem findWork_snapshot : (findWork ps s).1.snapshot = s.snapshot := by
  unfold findWork
  (repeat' split) <;> rfl

theorem tariffStageWork_snapshot : (tariffStageWork ps s).1.snapshot = s.snapshot := by
  unfold tariffStageWork
  split <;> rfl

theorem tariffReadWork_snapshot : (tariffReadWork ps s).1.snapshot = s.snapshot := by
  unfold tariffReadWork
  split <;> rfl

theorem tariffCommitWork_snapshot : (tariffCommitWork ps s).1.snapshot = s.snapshot := by
  unfold tariffCommitWork
  split <;> rfl

theorem setBandWork_snapshot : (setBandWork ps s).1.snapshot = s.snapshot := by
  unfold setBandWork
  split <;> rfl

theorem lineConfigWork_snapshot : (lineConfigWork ps s).1.snapshot = s.snapshot := by
  unfold lineConfigWork
  dsimp only
  (repeat' split) <;> rfl

theorem lineModeWork_snapshot : (lineModeWork ps s).1.snapshot = s.snapshot := by
  unfold lineModeWork
  split <;> rfl

theorem lineStatusWork_snapshot : (lineStatusWork ps s).1.snapshot = s.snapshot := by
  unfold lineStatusWork
  split <;> rfl

theorem lineClearWork_snapshot : (lineClearWork ps s).1.snapshot = s.snapshot := by
  unfold lineClearWork
  split <;> rfl

theorem setUnknownPolicyWork_snapshot : (setUnknownPolicyWork ps s).1.snapshot = s.snapshot := by
  unfold setUnknownPolicyWork
  split <;> rfl

theorem discoveryTakeWork_snapshot : (discoveryTakeWork ps s).1.snapshot = s.snapshot := by
  unfold discoveryTakeWork
  split <;> rfl

theorem setSilenceWork_snapshot : (setSilenceWork ps s).1.snapshot = s.snapshot := by
  unfold setSilenceWork
  split <;> rfl

theorem groupConfigWork_snapshot : (groupConfigWork ps s).1.snapshot = s.snapshot := by
  unfold groupConfigWork
  split <;> rfl

theorem noticeAckWork_snapshot : (noticeAckWork ps s).1.snapshot = s.snapshot := by
  unfold noticeAckWork
  split <;> rfl

theorem noticeEnableWork_snapshot : (noticeEnableWork ps s).1.snapshot = s.snapshot := by
  unfold noticeEnableWork
  (repeat' split) <;> rfl

theorem groupStatusWork_snapshot : (groupStatusWork ps s).1.snapshot = s.snapshot := by
  unfold groupStatusWork
  split <;> rfl

theorem snapshotTotalsWork_snapshot : (snapshotTotalsWork ps s).1.snapshot = s.snapshot := by
  unfold snapshotTotalsWork
  split <;> rfl

theorem checkpointWork_snapshot : (checkpointWork ps s).1.snapshot = s.snapshot := by
  unfold checkpointWork
  (repeat' split) <;> rfl

theorem checkpointAbortWork_snapshot : (checkpointAbortWork ps s).1.snapshot = s.snapshot := by
  unfold checkpointAbortWork
  split <;> rfl

theorem storeWipeWork_snapshot : (storeWipeWork ps s).1.snapshot = s.snapshot := by
  unfold storeWipeWork
  split <;> rfl

end

/-! The work of the other grants, of the port, of the store, of resets and of start-up. -/

/-- Work that is done for each item of a list keeps the snapshot if each item's work does. -/
theorem foldl_snapshot {α : Type} {f : State → α → State}
    (h : ∀ t x, (f t x).snapshot = t.snapshot) (xs : List α) (s : State) :
    (xs.foldl f s).snapshot = s.snapshot := by
  induction xs generalizing s with
  | nil => rfl
  | cons x xs ih => rw [List.foldl_cons, ih, h]

section
variable (s : State)

/-- A report of a known account captures its slot before it writes there (R12). -/
theorem knownReport_snapshot (i : Slot) (n : LineNo) (sequence : Byte) (usage : Half) :
    (s.knownReport i n sequence usage).snapshot = (s.copyBeforeWrite i).snapshot := by
  have htake : ∀ gap, (s.takeReport i n sequence usage gap).snapshot =
      (s.copyBeforeWrite i).snapshot := by
    intro gap
    cases gap <;> simp [State.takeReport, State.recordGap]
  unfold State.knownReport
  split
  · simp [State.duplicateReport, State.countDuplicate]
  all_goals exact htake _

theorem unknownReport_snapshot (n : LineNo) (id : Identity) (sequence : Byte) :
    (s.unknownReport n id sequence).snapshot = s.snapshot := by
  unfold State.unknownReport
  dsimp only
  split <;> rfl

theorem handleReport_move (n : LineNo) (id : Identity) (sequence : Byte) (usage : Half) :
    SnapshotMove s (s.handleReport n id sequence usage).1.snapshot := by
  unfold State.handleReport
  split
  · exact .of_copyBeforeWrite (knownReport_snapshot ..)
  · exact .of_eq (unknownReport_snapshot ..)

theorem grantReport_move (n : LineNo) : SnapshotMove s (s.grantReport n).snapshot := by
  unfold State.grantReport
  split
  · exact .kept
  · exact (handleReport_move ..).of_turn

theorem expireSilence_move (e : TimedEntry) (rest : List TimedEntry) :
    SnapshotMove s (s.expireSilence e rest).snapshot :=
  .of_copyBeforeWrite (i := e.slot) (by simp [State.expireSilence])

theorem expireGrace_move (e : TimedEntry) (rest : List TimedEntry) :
    SnapshotMove s (s.expireGrace e rest).snapshot :=
  .of_copyBeforeWrite (i := e.slot) (by simp [State.expireGrace])

theorem cleanPage_snapshot (k : Fin 64) : (s.cleanPage k).snapshot = s.snapshot := by
  unfold State.cleanPage
  exact foldl_snapshot (fun t j => t.setAccount_snapshot (pageSlot k j) _) _ _

theorem capturePage_snapshot (k : Fin 64) : (s.capturePage k).snapshot = s.snapshot := by
  unfold State.capturePage
  dsimp only
  rw [cleanPage_snapshot]

theorem verifyDone_snapshot (readBack : ReadBack) : (s.verifyDone readBack).snapshot = s.snapshot := by
  unfold State.verifyDone
  split
  · rfl
  · split <;> rfl

theorem spiPiece_snapshot (first : Byte) (piece : SpiPiece) :
    (s.spiPiece first piece).snapshot = s.snapshot := by
  unfold State.spiPiece
  (repeat' split) <;> rfl

theorem placeImage_snapshot (i : Slot) (m : StoredImage) :
    (s.placeImage i m).snapshot = s.snapshot := by
  unfold State.placeImage
  (repeat' split) <;> rfl

theorem placePage_snapshot (k : Fin 64) (v : Vector StoredImage 16) :
    (s.placePage k v).snapshot = s.snapshot := by
  have hfold : (pagePlaces.foldl (fun t j => t.placeImage (pageSlot k j) v[j]) s).snapshot =
      s.snapshot := foldl_snapshot (fun t _ => placeImage_snapshot t _ _) _ _
  unfold State.placePage
  dsimp only
  split
  · exact hfold
  · rw [State.updateStore_snapshot, hfold]

theorem loadPage_snapshot (k : Fin 64) : (s.loadPage k).snapshot = s.snapshot := by
  unfold State.loadPage
  split
  · exact placePage_snapshot ..
  · rfl

theorem loadSettings_snapshot : s.loadSettings.snapshot = s.snapshot := by
  unfold State.loadSettings
  split <;> rfl

theorem countHeader_snapshot : s.countHeader.snapshot = s.snapshot := by
  unfold State.countHeader
  split <;> rfl

theorem readHeader_snapshot : s.readHeader.snapshot = s.snapshot := by
  unfold State.readHeader
  split <;> rfl

theorem finishTable_snapshot : s.finishTable.snapshot = s.snapshot := by
  unfold State.finishTable
  dsimp only
  rw [foldl_snapshot fun t i => t.setKind_snapshot i .closed, State.updateSupv_snapshot]

theorem restoreTable_snapshot : s.restoreTable.snapshot = s.snapshot := by
  rw [State.restoreTable, finishTable_snapshot, foldl_snapshot loadPage_snapshot,
    loadSettings_snapshot, countHeader_snapshot]

theorem openPort_snapshot : s.openPort.snapshot = s.snapshot := rfl

theorem startUp_snapshot : s.startUp.snapshot = s.snapshot := by
  unfold State.startUp
  dsimp only
  split
  · rw [openPort_snapshot, State.updateStore_snapshot, readHeader_snapshot]
  · rw [openPort_snapshot, restoreTable_snapshot, readHeader_snapshot]

end

/-! The commands. -/

section
variable (s : State)

/-- A grant's work, done if the claimant is granted, moves the snapshot as the work does. -/
theorem ite_move {p : Prop} [Decidable p] {t : State} (h : p → SnapshotMove s t.snapshot) :
    SnapshotMove s (if p then t else s).snapshot := by
  split
  · next hp => exact h hp
  · exact .kept

theorem silenceExpiry_move : ∃ t, exec .silenceExpiry s = .next t ∧ SnapshotMove s t.snapshot := by
  refine ⟨_, rfl, ite_move s fun _ => ?_⟩
  split
  · exact (expireSilence_move ..).of_turn
  all_goals exact .kept

theorem graceExpiry_move : ∃ t, exec .graceExpiry s = .next t ∧ SnapshotMove s t.snapshot := by
  refine ⟨_, rfl, ite_move s fun _ => ?_⟩
  split
  · exact (expireGrace_move ..).of_turn
  all_goals exact .kept

theorem reportGrant_move (grant : LineGrant) :
    ∃ t, exec (.reportGrant grant) s = .next t ∧ SnapshotMove s t.snapshot := by
  refine ⟨_, rfl, ?_⟩
  cases grant with
  | work n => exact ite_move s fun _ => grantReport_move s n
  | result n => exact .kept

theorem sweepStep_move : ∃ t, exec .sweepStep s = .next t ∧ SnapshotMove s t.snapshot := by
  refine ⟨_, exec_sweepStep s, ite_move s fun hg => ?_⟩
  rw [sweep_turn]
  exact .swept (sweeping_of_granted hg)

theorem accountPageCapture_move :
    ∃ t, exec .accountPageCapture s = .next t ∧ SnapshotMove s t.snapshot := by
  refine ⟨_, rfl, ite_move s fun _ => ?_⟩
  dsimp only
  split
  · exact .of_eq (capturePage_snapshot ..)
  · exact .kept

theorem pinReset_move (event : ResetEvent) (mode : StartMode) :
    ∃ t, exec (.pinReset event mode) s = .next t ∧ SnapshotMove s t.snapshot := by
  refine ⟨_, rfl, ?_⟩
  cases event with
  | powerApplied => exact .reset
  | resetDriven =>
    dsimp only
    split
    · exact .kept
    · exact .reset
  | released => exact ite_move s fun _ => .kept

theorem partReset_move : ∃ t, exec .partReset s = .next t ∧ SnapshotMove s t.snapshot := by
  refine ⟨_, rfl, ?_⟩
  split
  · exact .kept
  · split
    · exact .kept
    · exact .reset

end

/-- Every command answers a state whose snapshot is one move away. -/
theorem exec_move (c : Instr) (s : State) : ∃ t, exec c s = .next t ∧ SnapshotMove s t.snapshot := by
  cases c with
  | pinReset event mode => exact pinReset_move s event mode
  | partReset => exact partReset_move s
  | startUp => exact ⟨_, rfl, ite_move s fun _ => .of_eq (startUp_snapshot s)⟩
  | secondEdge =>
    refine ⟨_, rfl, .of_eq ?_⟩
    split <;> rfl
  | silenceExpiry => exact silenceExpiry_move s
  | graceExpiry => exact graceExpiry_move s
  | reportGrant grant => exact reportGrant_move s grant
  | sweepStep => exact sweepStep_move s
  | settingsPageCapture => exact ⟨_, rfl, ite_move s fun _ => .kept⟩
  | accountPageCapture => exact accountPageCapture_move s
  | pageVerifyDone readBack => exact ⟨_, rfl, .of_eq (verifyDone_snapshot s readBack)⟩
  | frameCharacterReceived | framingError | frameGapTimeout | reportFrame | contentionCharacter
  | replyDeadline | replyStart | replySent | pageEraseDone | pageProgramDone | wipePageEraseDone
  | executorTake | overflowFaultResponse => exact ⟨_, rfl, .kept⟩
  | requestWrite | responseRead | statusRead | portFlush =>
    exact ⟨_, rfl, .of_eq (spiPiece_snapshot ..)⟩
  | unknownTransaction first piece =>
    exact ⟨_, rfl, ite_move s fun _ => .of_eq (spiPiece_snapshot s first piece)⟩
  | enrol => exact ⟨_, rfl, grantRequest_move s _ enrolWork_move⟩
  | accountRead => exact ⟨_, rfl, grantRequest_move s _ accountReadWork_move⟩
  | find => exact ⟨_, rfl, grantRequest_kept s _ findWork_snapshot⟩
  | setClass => exact ⟨_, rfl, grantRequest_move s _ setClassWork_move⟩
  | setGroup => exact ⟨_, rfl, grantRequest_move s _ setGroupWork_move⟩
  | setLow => exact ⟨_, rfl, grantRequest_move s _ setLowWork_move⟩
  | retire => exact ⟨_, rfl, grantRequest_move s _ retireWork_move⟩
  | purge => exact ⟨_, rfl, grantRequest_move s _ purgeWork_move⟩
  | adjust => exact ⟨_, rfl, grantRequest_move s _ adjustWork_move⟩
  | suspend => exact ⟨_, rfl, grantRequest_move s _ suspendWork_move⟩
  | unsuspend => exact ⟨_, rfl, grantRequest_move s _ unsuspendWork_move⟩
  | tariffStage => exact ⟨_, rfl, directRequest_kept s _ tariffStageWork_snapshot⟩
  | tariffRead => exact ⟨_, rfl, directRequest_kept s _ tariffReadWork_snapshot⟩
  | tariffCommit => exact ⟨_, rfl, grantRequest_kept s _ tariffCommitWork_snapshot⟩
  | setBand => exact ⟨_, rfl, grantRequest_kept s _ setBandWork_snapshot⟩
  | lineConfig => exact ⟨_, rfl, directRequest_kept s _ lineConfigWork_snapshot⟩
  | lineMode => exact ⟨_, rfl, directRequest_kept s _ lineModeWork_snapshot⟩
  | lineStatus => exact ⟨_, rfl, directRequest_kept s _ lineStatusWork_snapshot⟩
  | lineClear => exact ⟨_, rfl, directRequest_kept s _ lineClearWork_snapshot⟩
  | setUnknownPolicy => exact ⟨_, rfl, grantRequest_kept s _ setUnknownPolicyWork_snapshot⟩
  | discoveryTake => exact ⟨_, rfl, grantRequest_kept s _ discoveryTakeWork_snapshot⟩
  | setSilence => exact ⟨_, rfl, grantRequest_kept s _ setSilenceWork_snapshot⟩
  | tableStatus | highwaterReset | discoveryClear | setGrace | setTime | readTime =>
    exact ⟨_, rfl, grantRequest_kept s _ fun _ _ => rfl⟩
  | groupConfig => exact ⟨_, rfl, grantRequest_kept s _ groupConfigWork_snapshot⟩
  | noticeFetch => exact ⟨_, rfl, grantRequest_move s _ noticeFetchWork_move⟩
  | noticeAck => exact ⟨_, rfl, grantRequest_kept s _ noticeAckWork_snapshot⟩
  | noticeClear => exact ⟨_, rfl, grantRequest_move s _ noticeClearWork_move⟩
  | noticeEnable => exact ⟨_, rfl, directRequest_kept s _ noticeEnableWork_snapshot⟩
  | groupStatus => exact ⟨_, rfl, grantRequest_kept s _ groupStatusWork_snapshot⟩
  | snapshotTake => exact ⟨_, rfl, grantRequest_move s _ snapshotTakeWork_move⟩
  | snapshotRead => exact ⟨_, rfl, grantRequest_move s _ snapshotReadWork_move⟩
  | snapshotTotals => exact ⟨_, rfl, grantRequest_kept s _ snapshotTotalsWork_snapshot⟩
  | snapshotRelease => exact ⟨_, rfl, grantRequest_move s _ snapshotReleaseWork_move⟩
  | checkpoint => exact ⟨_, rfl, directRequest_kept s _ checkpointWork_snapshot⟩
  | checkpointAbort => exact ⟨_, rfl, directRequest_kept s _ checkpointAbortWork_snapshot⟩
  | storeWipe => exact ⟨_, rfl, directRequest_kept s _ storeWipeWork_snapshot⟩
  | tariffDiscard | storeStatus | partIdent =>
    exact ⟨_, rfl, directRequest_kept s _ fun _ _ => rfl⟩

/-- Settles O56: a step is idle or one command, a command is one move of the snapshot, and every move
keeps the agreement. -/
theorem stepKeepsTheSnapshotTotals : Obligations.StepKeepsTheSnapshotTotals := by
  intro s t hs hstep
  unfold step at hstep
  split at hstep
  · cases hstep
    exact hs
  · next c rest _ =>
    obtain ⟨u, hu, hmove⟩ := exec_move c { s with pending := rest }
    cases hu.symm.trans hstep
    exact hmove.agrees hs

end Sys2Proof.Proofs.SnapshotTotals

/-! ### The requests of the retention store, and the erases of a wipe (R166, R170 to R172) -/

namespace Sys2Proof.Proofs.StoreRequests

open Sys2Proof Sys2Proof.Machine
open Sys2Proof.Proofs.NoticeRequests (answers_of_directRequest)

/-! The commands. -/

theorem exec_checkpoint (s : State) :
    exec .checkpoint s = .next (s.directRequest .checkpoint checkpointWork) := rfl

theorem exec_checkpointAbort (s : State) :
    exec .checkpointAbort s = .next (s.directRequest .checkpointAbort checkpointAbortWork) := rfl

theorem exec_storeStatus (s : State) :
    exec .storeStatus s = .next (s.directRequest .storeStatus storeStatusWork) := rfl

theorem exec_storeWipe (s : State) :
    exec .storeWipe s = .next (s.directRequest .storeWipe storeWipeWork) := rfl

theorem exec_wipePageEraseDone (s : State) :
    exec .wipePageEraseDone s = .next (s.updateStore Store.wipeErased) := rfl

/-- A command whose work refuses without a grant gives the bare result and leaves the state (R14). -/
theorem refuses_of_directRequest {s : State} {c : Instr} {q : Req} {r : Request} {x : Result}
    {work : List Byte → State → State × Answer} (h : s.Serving q r) (hq : q.needsGrant = false)
    (hc : exec c s = .next (s.directRequest q work)) (hw : work r.params s = s.refuse x) :
    s.Refuses c r x :=
  answers_of_directRequest h hq hc hw

/-! CHECKPOINT (R166). -/

section
variable {s : State} {ps : List Byte} {b : Byte} {mode : CheckpointMode}

/-- The codes of the two checkpoint modes. -/
theorem checkpointModeOfCode_of_code
    (h : b = 0x00 ∧ mode = .full ∨ b = 0x01 ∧ mode = .dirty) :
    checkpointModeOfCode b = some mode := by
  rcases h with ⟨rfl, rfl⟩ | ⟨rfl, rfl⟩ <;> rfl

/-- A byte above 01h is the code of no checkpoint mode. -/
theorem checkpointModeOfCode_of_one_lt (h : 0x01 < b.toNat) : checkpointModeOfCode b = none := by
  have hfull : b ≠ 0x00 := by rintro rfl; exact absurd h (by decide)
  have hdirty : b ≠ 0x01 := by rintro rfl; exact absurd h (by decide)
  rw [checkpointModeOfCode, if_neg hfull, if_neg hdirty]

theorem checkpointWork_of_idle (hm : checkpointModeOfCode (byteAt ps 0) = some mode)
    (hs : s.store.state = .idle) :
    checkpointWork ps s =
      (s.updateStore fun st => st.startCheckpoint mode,
        { result := .started, bytes := bytes16 (s.store.headerGeneration + 1) }) := by
  rw [checkpointWork, hm]
  exact if_pos hs

theorem checkpointWork_of_not_idle (hm : checkpointModeOfCode (byteAt ps 0) = some mode)
    (hs : s.store.state ≠ .idle) : checkpointWork ps s = s.refuse .busy := by
  rw [checkpointWork, hm]
  exact if_neg hs

theorem checkpointWork_of_one_lt (hb : 0x01 < (byteAt ps 0).toNat) :
    checkpointWork ps s = s.refuse .badParam := by
  rw [checkpointWork, checkpointModeOfCode_of_one_lt hb]

end

/-! CHECKPOINT_ABORT (R170). -/

section
variable {s : State} {ps : List Byte} {w : PageWork} {st : Store}

theorem checkpointAbortWork_of_checkpoint (hs : s.store.state = .checkpoint) :
    checkpointAbortWork ps s = (s.updateStore Store.abort, .ok [0x01]) := by
  simp only [checkpointAbortWork, hs, StoreState.code]

theorem checkpointAbortWork_of_wiping (hs : s.store.state = .wiping) :
    checkpointAbortWork ps s = (s, { result := .busy, bytes := [0x03] }) := by
  simp only [checkpointAbortWork, hs, StoreState.code]

theorem checkpointAbortWork_of_aborting (hs : s.store.state = .aborting) :
    checkpointAbortWork ps s = (s, .ok [0x02]) := by
  simp only [checkpointAbortWork, hs, StoreState.code]

theorem checkpointAbortWork_of_idle (hs : s.store.state = .idle) :
    checkpointAbortWork ps s = (s, .ok [0x00]) := by
  simp only [checkpointAbortWork, hs, StoreState.code]

/-- A settings or account page in progress is finished first (R170). -/
theorem abort_of_page (hw : st.inProgress = some w) (hp : w.page ≠ 0) :
    st.abort = { st with state := .aborting } := by
  rw [Store.abort, hw]
  exact if_neg hp

/-- A header in progress goes on (R170). -/
theorem abort_of_header (hw : st.inProgress = some w) (hp : w.page = 0) : st.abort = st := by
  rw [Store.abort, hw]
  exact if_pos hp

/-- With no page in progress the claim is withdrawn at once (R170). -/
theorem abort_of_none (hw : st.inProgress = none) :
    st.abort = { st with state := .idle, claim := none, lastResult := .aborted } := by
  rw [Store.abort, hw]

/-- In CHECKPOINT the request answers the state before it and leaves what `Store.abort` gives. -/
theorem checkpointAbort_answers {r : Request} (h : s.Serving .checkpointAbort r)
    (hs : s.store.state = .checkpoint) {st : Store} (hst : s.store.abort = st) :
    s.Answers .checkpointAbort r { s with store := st } (.ok [0x01]) :=
  hst ▸ answers_of_directRequest h rfl (exec_checkpointAbort s)
    (checkpointAbortWork_of_checkpoint hs)

end

/-- Settles O29: each request is carried out without a grant, so its command answers what its work
gives in the store's state. -/
theorem checkpointRequestsAnswer : Obligations.CheckpointRequestsAnswer := by
  refine ⟨fun s r h => ⟨fun mode hmode => ⟨fun hidle => ?_, fun hbusy => ?_⟩, fun hbad => ?_⟩,
    fun s r h => ?_,
    fun s r h => ⟨fun hs => ⟨fun w hw hp => ?_, fun hw => ?_, fun w hw hp => ?_⟩,
      fun hs => ?_, fun hs => ?_, fun hs => ?_⟩⟩
  · exact answers_of_directRequest h rfl (exec_checkpoint s)
      (checkpointWork_of_idle (checkpointModeOfCode_of_code hmode) hidle)
  · have hs : s.store.state ≠ .idle := by
      rcases hbusy with hs | hs | hs <;> rw [hs] <;> decide
    exact refuses_of_directRequest h rfl (exec_checkpoint s)
      (checkpointWork_of_not_idle (checkpointModeOfCode_of_code hmode) hs)
  · exact refuses_of_directRequest h rfl (exec_checkpoint s) (checkpointWork_of_one_lt hbad)
  · refine answers_of_directRequest h rfl (exec_storeStatus s) ?_
    rw [storeStatusWork, Store.statusBytes]
    cases s.store.inProgress <;> rfl
  · exact checkpointAbort_answers h hs (abort_of_page hw hp)
  · exact checkpointAbort_answers h hs (abort_of_none hw)
  · exact checkpointAbort_answers h hs (abort_of_header hw hp)
  · exact answers_of_directRequest h rfl (exec_checkpointAbort s) (checkpointAbortWork_of_idle hs)
  · exact answers_of_directRequest h rfl (exec_checkpointAbort s)
      (checkpointAbortWork_of_aborting hs)
  · exact answers_of_directRequest h rfl (exec_checkpointAbort s) (checkpointAbortWork_of_wiping hs)

/-! STORE_WIPE and its erases (R171). -/

section
variable {s : State} {ps : List Byte} {st : Store} {p q : Fin 66}

theorem storeWipeWork_of_idle (hs : s.store.state = .idle) :
    storeWipeWork ps s = (s.updateStore Store.startWipe, { result := .started, bytes := [] }) :=
  if_pos hs

theorem storeWipeWork_of_not_idle (hs : s.store.state ≠ .idle) :
    storeWipeWork ps s = s.refuse .busy :=
  if_neg hs

/-- After a page that another follows, that one is begun. -/
theorem wipeErased_of_next (hs : st.state = .wiping)
    (hp : st.inProgress = some { page := p, phase := .erasing }) (hq : q.val = p.val + 1) :
    st.wipeErased =
      { st with
        array := st.array.set p .erased
        inProgress := some { page := q, phase := .erasing } } := by
  have hnext : below 66 (p.val + 1) = some q := below_eq_some.mpr hq.symm
  simp only [Store.wipeErased, hs, hp, hnext]

/-- After page 65 the wipe ends. -/
theorem wipeErased_of_last (hs : st.state = .wiping)
    (hp : st.inProgress = some { page := p, phase := .erasing }) (hlast : p.val = 65) :
    st.wipeErased =
      { st with
        array := st.array.set p .erased
        inProgress := none
        state := .idle
        lastResult := .wiped } := by
  have hnext : below 66 (p.val + 1) = none := below_eq_none.mpr (by omega)
  simp only [Store.wipeErased, hs, hp, hnext]

/-- The command leaves what `Store.wipeErased` gives. -/
theorem exec_wipePageEraseDone_of_eq (h : s.store.wipeErased = st) :
    exec .wipePageEraseDone s = .next { s with store := st } :=
  h ▸ exec_wipePageEraseDone s

end

/-- Settles O30: the request starts the wipe in IDLE alone, and each erase goes on to the page numbered
one higher, of which page 65 has none. -/
theorem wipeErasesEveryPage : Obligations.WipeErasesEveryPage := by
  refine ⟨fun s r h => ⟨fun hidle => ?_, fun hbusy => ?_⟩, fun s p hs hp =>
    ⟨fun q hq => ?_, fun hlast => ?_⟩⟩
  · exact answers_of_directRequest h rfl (exec_storeWipe s) (storeWipeWork_of_idle hidle)
  · exact refuses_of_directRequest h rfl (exec_storeWipe s) (storeWipeWork_of_not_idle hbusy)
  · exact exec_wipePageEraseDone_of_eq (wipeErased_of_next hs hp hq)
  · exact exec_wipePageEraseDone_of_eq (wipeErased_of_last hs hp hlast)

end Sys2Proof.Proofs.StoreRequests

/-! ### The array and the last result over a reset (R160, R173) -/

namespace Sys2Proof.Proofs.StoreResets

open Sys2Proof Sys2Proof.Machine

/-! The commands. -/

theorem exec_powerApplied (s : State) (mode : StartMode) :
    exec (.pinReset .powerApplied mode) s = .next (s.driveReset .none) := rfl

theorem exec_resetDriven (s : State) (mode : StartMode) :
    exec (.pinReset .resetDriven mode) s =
      .next (if s.resetHeld then s else s.driveReset s.store.resultAfterReset) := rfl

/-- A PART_RESET in execution with a start mode in range resets the part (R190). -/
theorem exec_partReset_of_mode {s : State} {r : Request} {mode : StartMode}
    (h : s.Serving .partReset r) (hm : byteAt r.params 0 = startModeCode mode) :
    exec .partReset s = .next (s.softReset mode) := by
  have hmode : startModeOfCode (byteAt r.params 0) = some mode := by
    rw [hm]
    cases mode <;> rfl
  show execPartReset s = _
  simp only [execPartReset, h.inExecution, hmode]

/-! What a reset leaves of the array. -/

/-- Reading a vector after one place was written. -/
theorem getElem_set_fin {α : Type} {n : Nat} (v : Vector α n) (i j : Fin n) (x : α) :
    (v.set i x)[j] = if j = i then x else v[j] := by
  simp only [Fin.getElem_fin, Vector.getElem_set, Fin.ext_iff, eq_comm]

section
variable (st : Store) (c : CutOff)

theorem cutPage_of_verifying {w : PageWork} (hw : w.phase = .verifying) :
    st.cutPage w c = st.array[w.page] := by
  cases c <;> simp only [Store.cutPage, hw]

/-- An erase that was cut off did not begin, was partway, or had finished. -/
theorem cutPage_of_erasing {w : PageWork} (hw : w.phase = .erasing) :
    st.cutPage w c = st.array[w.page] ∨ st.cutPage w c = .damaged ∨ st.cutPage w c = .erased := by
  cases c with
  | notBegun => exact .inl (by simp only [Store.cutPage, hw])
  | partway => exact .inr (.inl (by simp only [Store.cutPage, hw]))
  | finished => exact .inr (.inr (by simp only [Store.cutPage, hw]))

/-- A program that was cut off did not begin, was partway, or had finished. -/
theorem cutPage_of_programming {w : PageWork} (hw : w.phase = .programming) :
    st.cutPage w c = st.array[w.page] ∨ st.cutPage w c = .damaged ∨ st.cutPage w c = st.latch := by
  cases c with
  | notBegun => exact .inl (by simp only [Store.cutPage, hw])
  | partway => exact .inr (.inl (by simp only [Store.cutPage, hw]))
  | finished => exact .inr (.inr (by simp only [Store.cutPage, hw]))

/-- The page in progress is left as it was cut off. -/
theorem arrayAfterReset_page {w : PageWork} (hw : st.inProgress = some w) :
    (st.arrayAfterReset c)[w.page] = st.cutPage w c := by
  simp only [Store.arrayAfterReset, hw, getElem_set_fin, if_true]

/-- Every other page is kept. -/
theorem arrayAfterReset_other {p : Fin 66} (hp : ∀ w, st.inProgress = some w → w.page ≠ p) :
    (st.arrayAfterReset c)[p] = st.array[p] := by
  unfold Store.arrayAfterReset
  split
  · rfl
  · next w hw => rw [getElem_set_fin, if_neg (hp w hw).symm]

/-- A reset keeps the array but for the page in progress, whatever the free value (log 9). -/
theorem arrayKept_of_array {st' : Store} (h : st'.array = st.arrayAfterReset c) :
    st.ArrayKept st' where
  idle p hp := by rw [h]; exact arrayAfterReset_other st c hp
  verifying w hw hphase := by
    rw [h, arrayAfterReset_page st c hw]
    exact cutPage_of_verifying st c hphase
  erasing w hw hphase := by
    rw [h, arrayAfterReset_page st c hw]
    exact cutPage_of_erasing st c hphase
  programming w hw hphase := by
    rw [h, arrayAfterReset_page st c hw]
    exact cutPage_of_programming st c hphase

/-- Store work is under way in CHECKPOINT, ABORTING and WIPING (R173). -/
theorem resultAfterReset_eq :
    st.resultAfterReset =
      if st.state = .checkpoint ∨ st.state = .aborting ∨ st.state = .wiping then .interrupted
      else .none := by
  unfold Store.resultAfterReset
  cases st.state <;> rfl

end

section
variable (s : State)

theorem driveReset_arrayKept (result : LastResult) :
    s.store.ArrayKept (s.driveReset result).store :=
  arrayKept_of_array s.store (Config.cutOff s.freeCount) rfl

theorem softReset_arrayKept (mode : StartMode) : s.store.ArrayKept (s.softReset mode).store :=
  arrayKept_of_array s.store (Config.cutOff s.freeCount) rfl

end

/-- Settles O5: every reset leaves the array as `Store.arrayAfterReset` and sets the last result, which
power alone makes NONE without a look at the store's state. -/
theorem resetKeepsTheArray : Obligations.ResetKeepsTheArray := by
  refine ⟨fun event mode s hevent => ?_, fun s r mode h hm => ?_⟩
  · rcases hevent with rfl | ⟨rfl, hheld⟩
    · exact ⟨_, exec_powerApplied s mode, driveReset_arrayKept s _,
        (if_neg fun h => ResetEvent.noConfusion h.1).symm⟩
    · refine ⟨s.driveReset s.store.resultAfterReset, ?_, driveReset_arrayKept s _, ?_⟩
      · rw [exec_resetDriven, hheld]
        rfl
      · simp only [true_and]
        exact resultAfterReset_eq s.store
  · exact ⟨_, exec_partReset_of_mode h hm, softReset_arrayKept s mode, resultAfterReset_eq s.store⟩

end Sys2Proof.Proofs.StoreResets

/-! ### The pages of a checkpoint: captured, erased, programmed, verified (R161 to R168) -/

namespace Sys2Proof.Proofs.StorePages

open Sys2Proof Sys2Proof.Machine
open Sys2Proof.Proofs.StoreResets (getElem_set_fin)

/-! The commands. -/

theorem exec_settingsPageCapture (s : State) :
    exec .settingsPageCapture s =
      .next (if s.granted = some .capt ∧ s.store.claim = some .settings then
        (s.turn .capt).captureSettings else s) := rfl

theorem exec_accountPageCapture_of_page {s : State} {k : Fin 64} (hg : s.granted = some .capt)
    (hc : s.store.claim = some .account) (hk : s.nextPage = some k) :
    exec .accountPageCapture s = .next ((s.turn .capt).capturePage k) := by
  have hturn : (s.turn .capt).nextPage = some k := hk
  show execAccountPageCapture s = _
  rw [execAccountPageCapture, if_pos ⟨hg, hc⟩]
  simp only [hturn]

theorem exec_accountPageCapture_of_none {s : State} (hg : s.granted = some .capt)
    (hc : s.store.claim = some .account) (hk : s.nextPage = none) :
    exec .accountPageCapture s =
      .next { s.turn .capt with store := s.store.prepareHeader s.supv.calendar } := by
  have hturn : (s.turn .capt).nextPage = none := hk
  show execAccountPageCapture s = _
  rw [execAccountPageCapture, if_pos ⟨hg, hc⟩]
  simp only [hturn]
  rfl

theorem exec_pageEraseDone (s : State) :
    exec .pageEraseDone s = .next (s.updateStore Store.eraseDone) := rfl

theorem exec_pageProgramDone (s : State) :
    exec .pageProgramDone s = .next (s.updateStore Store.programDone) := rfl

/-! The settings page. -/

/-- The settings, block by block (R162). -/
theorem settings_eq (s : State) :
    s.settings =
      { live := s.tariff.live
        band := s.tariff.band
        gracePeriod := s.supv.gracePeriod
        silenceLimit := s.supv.silenceLimit
        policy := s.discovery.policy
        groups := Vector.ofFn fun g : GroupNo =>
          (s.notices.groups[g].mask, s.notices.groups[g].priority)
        lines := Vector.ofFn fun n : LineNo => (s.lines[n].rate, s.lines[n].window) } := by
  rw [State.settings]
  congr 1 <;> ext i hi <;> simp

/-! Which account page a grant chooses (R167). -/

/-- The first number that meets a test is the least that does. -/
theorem find?_finRange_eq_some {n : Nat} {p : Fin n → Bool} {k : Fin n} (hk : p k = true)
    (hleast : ∀ k', p k' = true → k ≤ k') : (List.finRange n).find? p = some k := by
  refine List.find?_eq_some_iff_getElem.mpr ⟨hk, k.val, by simp, by simp, fun j hj => ?_⟩
  rw [Bool.not_eq_true', Bool.eq_false_iff]
  intro hp
  have hle := Fin.le_def.mp (hleast _ hp)
  simp only [List.getElem_finRange, Fin.val_cast] at hle
  omega

section
variable {s : State} {k : Fin 64}

theorem pageDirty_iff : s.pageDirty k = true ↔
    ∃ j : Fin 16, (s.account (pageSlot k j)).dirty = true := by
  simp [State.pageDirty, pagePlaces]

/-- A page that DIRTY mode writes: it holds a dirty slot, or stands in the rewrite set. -/
def Due (s : State) (k : Fin 64) : Prop :=
  (∃ j : Fin 16, (s.account (pageSlot k j)).dirty = true) ∨ k ∈ s.store.rewrite

theorem nextPage_of_full (hm : s.store.mode = .full) :
    s.nextPage = allPages.find? fun k => k.val + 2 == s.store.cursor := by
  rw [State.nextPage, hm]

theorem nextPage_of_dirty (hm : s.store.mode = .dirty) :
    s.nextPage = allPages.find? fun k =>
      decide (s.store.cursor ≤ k.val + 2) && (s.pageDirty k || s.store.rewrite.contains k) := by
  rw [State.nextPage, hm]

/-- The test of DIRTY mode: a page not yet passed that is due. -/
theorem dirtyTest_iff :
    (decide (s.store.cursor ≤ k.val + 2) && (s.pageDirty k || s.store.rewrite.contains k)) = true ↔
      s.store.cursor ≤ k.val + 2 ∧ Due s k := by
  simp [pageDirty_iff, Due]

/-- FULL mode takes the page at the cursor; DIRTY mode the lowest page from the cursor on that is due. -/
theorem nextPage_eq_some
    (h : s.store.mode = .full ∧ s.store.cursor = k.val + 2 ∨
      s.store.mode = .dirty ∧ s.store.cursor ≤ k.val + 2 ∧ Due s k ∧
        ∀ k' : Fin 64, s.store.cursor ≤ k'.val + 2 → Due s k' → k ≤ k') :
    s.nextPage = some k := by
  rcases h with ⟨hm, hc⟩ | ⟨hm, hc, hdue, hleast⟩
  · rw [nextPage_of_full hm]
    refine find?_finRange_eq_some (by simp [hc]) fun k' hk' => ?_
    have := eq_of_beq hk'
    exact Fin.le_def.mpr (by omega)
  · rw [nextPage_of_dirty hm]
    refine find?_finRange_eq_some (dirtyTest_iff.mpr ⟨hc, hdue⟩) fun k' hk' => ?_
    obtain ⟨hc', hdue'⟩ := dirtyTest_iff.mp hk'
    exact hleast k' hc' hdue'

/-- No page is left after page 65 in FULL mode, nor where none is due in DIRTY mode. -/
theorem nextPage_eq_none
    (h : s.store.mode = .full ∧ s.store.cursor = 66 ∨
      s.store.mode = .dirty ∧ ∀ k : Fin 64, s.store.cursor ≤ k.val + 2 → ¬Due s k) :
    s.nextPage = none := by
  rcases h with ⟨hm, hc⟩ | ⟨hm, hnone⟩
  · rw [nextPage_of_full hm]
    refine List.find?_eq_none.mpr fun k _ hk => ?_
    have := eq_of_beq hk
    omega
  · rw [nextPage_of_dirty hm]
    refine List.find?_eq_none.mpr fun k _ hk => ?_
    obtain ⟨hc, hdue⟩ := dirtyTest_iff.mp hk
    exact hnone k hc hdue

end

/-! The dirty flags of an account page. -/

/-- The dirty flags at some places of an account page cleared. -/
def cleanPlaces (k : Fin 64) (js : List (Fin 16)) (s : State) : State :=
  js.foldl
    (fun t j => t.setAccount (pageSlot k j) { t.account (pageSlot k j) with dirty := false }) s

section
variable {s : State} {k : Fin 64} {js : List (Fin 16)} {i : Slot}

theorem cleanPage_eq_cleanPlaces : s.cleanPage k = cleanPlaces k pagePlaces s := rfl

/-- Clearing dirty flags changes the table alone. -/
theorem cleanPlaces_eq : cleanPlaces k js s = { s with table := (cleanPlaces k js s).table } := by
  induction js generalizing s with
  | nil => rfl
  | cons j js ih => exact ih

/-- The slots of the places are clean, and no other record changes. -/
theorem account_cleanPlaces :
    (cleanPlaces k js s).account i =
      if ∃ j ∈ js, i = pageSlot k j then { s.account i with dirty := false } else s.account i := by
  induction js generalizing s with
  | nil => simp [cleanPlaces]
  | cons j js ih =>
    have hstep : cleanPlaces k (j :: js) s = cleanPlaces k js
        (s.setAccount (pageSlot k j) { s.account (pageSlot k j) with dirty := false }) := rfl
    rw [hstep, ih, State.account_setAccount]
    by_cases hj : i = pageSlot k j
    · subst hj
      simp
    · simp [hj]

theorem account_cleanPage_of_place (j : Fin 16) :
    (s.cleanPage k).account (pageSlot k j) = { s.account (pageSlot k j) with dirty := false } := by
  rw [cleanPage_eq_cleanPlaces, account_cleanPlaces]
  exact if_pos ⟨j, List.mem_finRange j, rfl⟩

theorem account_cleanPage_of_other (h : ∀ j : Fin 16, i ≠ pageSlot k j) :
    (s.cleanPage k).account i = s.account i := by
  rw [cleanPage_eq_cleanPlaces, account_cleanPlaces]
  exact if_neg fun ⟨j, _, hj⟩ => h j hj

/-- A page captured: its content is in the latch, its erase begins, and its slots are clean (R167). -/
theorem capturePage_eq :
    s.capturePage k = { s with
      table := (s.cleanPage k).table
      store := { s.store with
        latch := .written
          (.account (Vector.ofFn fun j => (s.account (pageSlot k j)).image.stored))
          (k.val + 2) s.store.generation true
        inProgress := some { page := ⟨k.val + 2, by omega⟩, phase := .erasing }
        cursor := k.val + 3
        claim := none } } := by
  have hclean : s.cleanPage k = { s with table := (s.cleanPage k).table } := cleanPlaces_eq
  rw [State.capturePage, hclean]
  rfl

end

/-- Settles O27: an account grant takes the page that `State.nextPage` finds, and prepares the header
where it finds none. -/
theorem captGrantsFillTheLatch : Obligations.CaptGrantsFillTheLatch := by
  refine ⟨fun s hg hc => ?_, fun s hg hc => ⟨fun k hk => ?_, fun hnone => ?_⟩⟩
  · rw [exec_settingsPageCapture, if_pos ⟨hg, hc⟩, ← settings_eq]
    rfl
  · refine ⟨(s.cleanPage k).table, ?_, account_cleanPage_of_place (s := s) (k := k),
      fun i => account_cleanPage_of_other (s := s) (k := k)⟩
    rw [exec_accountPageCapture_of_page hg hc (nextPage_eq_some hk), capturePage_eq]
    have hturn : ((s.turn .capt).cleanPage k).table = (s.cleanPage k).table := rfl
    rw [hturn]
    rfl
  · exact exec_accountPageCapture_of_none hg hc (nextPage_eq_none hnone)

/-! The erase and the program of a page (R165). -/

section
variable {st : Store} {p : Fin 66} {phase : WritePhase}

/-- A page of a checkpoint or an abort is written in the phase it stands in. -/
theorem writing_of_inProgress (hs : st.state = .checkpoint ∨ st.state = .aborting)
    (hp : st.inProgress = some { page := p, phase := phase }) : st.writing phase = some p := by
  rw [Store.writing, if_pos hs, hp]
  cases phase <;> rfl

theorem eraseDone_of_writing (h : st.writing .erasing = some p) :
    st.eraseDone = { st with
      array := st.array.set p .erased
      inProgress := some { page := p, phase := .programming } } := by
  rw [Store.eraseDone, h]

theorem programDone_of_writing (h : st.writing .programming = some p) :
    st.programDone = { st with
      array := st.array.set p st.latch
      pagesWritten := st.pagesWritten + (if p = 0 then 0 else 1)
      inProgress := some { page := p, phase := .verifying } } := by
  rw [Store.programDone, h]
  by_cases hp : p = 0 <;> simp [hp]

end

/-! The verify of a page (R165). -/

/-- The account page of a page number. -/
theorem pageIndex_eq_some {p : Fin 66} {k : Fin 64} : pageIndex p = some k ↔ p.val = k.val + 2 := by
  unfold pageIndex
  split
  · simp only [reduceCtorEq, false_iff]
    omega
  · rw [below_eq_some]
    omega

/-- What the end of a verify makes of the store, before what follows it: `reads` says whether a page
that failed still reads with a good CRC (log 10). -/
def verified (st : Store) (p : Fin 66) (reads : Bool) : ReadBack → Store
  | .matched => st.verifyPassed p
  | .mismatched => st.verifyFailed p reads

/-- What the verify of page `p` leaves of the rewrite set and the array (R165). -/
structure PageVerified (st : Store) (p : Fin 66) (readBack : ReadBack) (rewrite : List (Fin 64))
    (array : Vector Page 66) : Prop where
  rewrite : ∀ k : Fin 64, k ∈ rewrite ↔
    if p.val = k.val + 2 then readBack = .mismatched else k ∈ st.rewrite
  others : ∀ q : Fin 66, q ≠ p → array[q] = st.array[q]
  matched : readBack = .matched → array[p] = st.array[p]
  mismatched : readBack = .mismatched → ∃ good, array[p] = st.array[p].withCrc good ∧
    (p = 0 → good = false)

section
variable (st : Store) (p : Fin 66) (reads : Bool)

theorem mem_joinRewrite {k j : Fin 64} : j ∈ (st.joinRewrite k).rewrite ↔ j = k ∨ j ∈ st.rewrite := by
  simp [Store.joinRewrite, allPages]

theorem mem_leaveRewrite {k j : Fin 64} :
    j ∈ (st.leaveRewrite k).rewrite ↔ j ∈ st.rewrite ∧ j ≠ k := by
  simp [Store.leaveRewrite]

/-- An account page leaves the rewrite set when its verify matches. -/
theorem mem_verifyPassed_rewrite {j : Fin 64} :
    j ∈ (st.verifyPassed p).rewrite ↔ j ∈ st.rewrite ∧ p.val ≠ j.val + 2 := by
  unfold Store.verifyPassed
  rw [Ne, ← pageIndex_eq_some]
  cases pageIndex p with
  | some k => simp [mem_leaveRewrite, eq_comm]
  | none => simp

/-- An account page joins the rewrite set when its verify does not match. -/
theorem mem_verifyFailed_rewrite {j : Fin 64} :
    j ∈ (st.verifyFailed p reads).rewrite ↔ p.val = j.val + 2 ∨ j ∈ st.rewrite := by
  unfold Store.verifyFailed
  rw [← pageIndex_eq_some]
  cases pageIndex p with
  | some k => simp [mem_joinRewrite, eq_comm]
  | none => simp

/-- The array after a verify that does not match: the page keeps all but its CRC agreement. -/
theorem verifyFailed_array :
    (st.verifyFailed p reads).array = st.array.set p (st.array[p].withCrc (reads && p != 0)) := by
  unfold Store.verifyFailed
  cases pageIndex p <;> rfl

theorem verifyPassed_eq : st.verifyPassed p =
    { st with rewrite := (st.verifyPassed p).rewrite } := by
  unfold Store.verifyPassed
  cases pageIndex p <;> rfl

theorem verifyFailed_eq : st.verifyFailed p reads =
    { st with
      verifyFailures := st.verifyFailures + 1
      rewrite := (st.verifyFailed p reads).rewrite
      array := (st.verifyFailed p reads).array } := by
  unfold Store.verifyFailed
  cases pageIndex p <;> rfl

theorem verifyPassed_pageVerified :
    PageVerified st p .matched (st.verifyPassed p).rewrite st.array where
  rewrite j := by
    rw [mem_verifyPassed_rewrite]
    split <;> simp [*]
  others _ _ := rfl
  matched _ := rfl
  mismatched h := ReadBack.noConfusion h

theorem verifyFailed_pageVerified :
    PageVerified st p .mismatched (st.verifyFailed p reads).rewrite
      (st.verifyFailed p reads).array where
  rewrite j := by
    rw [mem_verifyFailed_rewrite]
    split <;> simp [*]
  others q hq := by rw [verifyFailed_array, getElem_set_fin, if_neg hq]
  matched h := ReadBack.noConfusion h
  mismatched _ := by
    refine ⟨reads && p != 0, ?_, fun hp => by simp [hp]⟩
    rw [verifyFailed_array, getElem_set_fin, if_pos rfl]

/-- A verify changes the count of failures, the rewrite set and the array alone. -/
theorem verified_eq (readBack : ReadBack) : ∃ rewrite array,
    verified st p reads readBack = { st with
      verifyFailures := st.verifyFailures + (if readBack = .matched then 0 else 1)
      rewrite := rewrite
      array := array } ∧ PageVerified st p readBack rewrite array := by
  cases readBack with
  | matched => exact ⟨_, _, verifyPassed_eq st p, verifyPassed_pageVerified st p⟩
  | mismatched => exact ⟨_, _, verifyFailed_eq st p reads, verifyFailed_pageVerified st p reads⟩

end

/-- The end of a verify: the store after it, and one free value more used where it does not match. -/
theorem exec_pageVerifyDone_of_eq {s : State} {p : Fin 66} {readBack : ReadBack} {v st : Store}
    (h : s.store.writing .verifying = some p)
    (hv : verified s.store p (Config.failedPageReads s.freeCount) readBack = v)
    (hst : v.afterVerify p s.supv.calendar = st) :
    exec (.pageVerifyDone readBack) s = .next { s with
      freeCount := s.freeCount + (if readBack = .matched then 0 else 1)
      store := st } := by
  show Host.Outcome.next (s.verifyDone readBack) = _
  rw [State.verifyDone, h, ← hst, ← hv]
  cases readBack <;> rfl

/-! What follows a verify (R167, R168, R170). -/

section
variable {st : Store} {p : Fin 66} {calendar : Word}

theorem ne_aborting (hs : st.state = .checkpoint) : st.state ≠ .aborting := by
  rw [hs]
  exact StoreState.noConfusion

theorem afterVerify_of_aborting (hs : st.state = .aborting) :
    st.afterVerify p calendar =
      { st with inProgress := none, state := .idle, lastResult := .aborted } :=
  if_pos hs

/-- A checkpoint completes after its header, with the figures of the header in the latch (R168). -/
theorem afterVerify_of_header (hs : st.state = .checkpoint) (hp : p = 0) {figures : HeaderFigures}
    {n : Nat} {g : Half} {c : Bool} (h : st.latch = .written (.header figures) n g c) :
    st.afterVerify p calendar = { st with
      inProgress := none
      headerGeneration := st.generation
      headerFigures := figures
      state := .idle
      lastResult := if st.verifyFailures = 0 then .complete else .completeWithFailures } := by
  have hafter : st.afterVerify p calendar = { st with inProgress := none }.complete :=
    (if_neg (ne_aborting hs)).trans (if_pos hp)
  rw [hafter]
  simp only [Store.complete, h, Page.figures]

theorem afterVerify_of_last (hs : st.state = .checkpoint) (hp : p ≠ 0) (hc : 66 ≤ st.cursor) :
    st.afterVerify p calendar = { st with inProgress := none }.prepareHeader calendar :=
  (if_neg (ne_aborting hs)).trans ((if_neg hp).trans (if_pos hc))

theorem afterVerify_of_next (hs : st.state = .checkpoint) (hp : p ≠ 0) (hc : st.cursor < 66) :
    st.afterVerify p calendar =
      { st with inProgress := none, claim := some .account } :=
  (if_neg (ne_aborting hs)).trans ((if_neg hp).trans (if_neg (Nat.not_le.mpr hc)))

end

/-- Settles O28: a page goes from its erase to its program to its verify; `PageVerified` says what the
verify leaves, and `Store.afterVerify` what follows in each state of the store. -/
theorem pageIsErasedProgrammedVerified : Obligations.PageIsErasedProgrammedVerified := by
  refine fun s p hs => ⟨fun hp => ?_, fun hp => ?_, fun hp readBack => ?_⟩
  · rw [exec_pageEraseDone, ← eraseDone_of_writing (writing_of_inProgress hs hp)]
    rfl
  · rw [exec_pageProgramDone, ← programDone_of_writing (writing_of_inProgress hs hp)]
    rfl
  · have hw := writing_of_inProgress hs hp
    obtain ⟨rewrite, array, hv, hrewrite, hothers, hmatched, hmismatched⟩ :=
      verified_eq s.store p (Config.failedPageReads s.freeCount) readBack
    refine ⟨{ s.store with
        verifyFailures := s.store.verifyFailures + (if readBack = .matched then 0 else 1)
        rewrite := rewrite
        array := array
        inProgress := none }, rfl, hrewrite, hothers, hmatched, hmismatched,
      fun habort => ?_, fun hcheck hzero figures n g c hlatch => ?_, fun hcheck hpage hc => ?_,
      fun hcheck hpage hc => ?_⟩
    · exact exec_pageVerifyDone_of_eq hw hv (afterVerify_of_aborting habort)
    · refine exec_pageVerifyDone_of_eq hw hv
        (afterVerify_of_header (n := n) (g := g) (c := c) ?_ hzero ?_)
      · exact hcheck
      · exact hlatch
    · exact exec_pageVerifyDone_of_eq hw hv (afterVerify_of_last hcheck hpage (Nat.le_of_eq hc.symm))
    · exact exec_pageVerifyDone_of_eq hw hv (afterVerify_of_next hcheck hpage hc)

end Sys2Proof.Proofs.StorePages

/-! ### Start-up: the header, the settings page and what is counted (R163, R174 to R178) -/

namespace Sys2Proof.Proofs.StartUp

open Sys2Proof Sys2Proof.Machine

/-! The command. -/

theorem exec_startUp_of_start {s : State} (hs : s.store.state = .start) (hh : s.resetHeld = false) :
    exec .startUp s = .next s.startUp := by
  show execStartUp s = _
  rw [execStartUp, if_pos ⟨hs, hh⟩]

theorem exec_startUp_of_not_start {s : State} (h : s.store.state ≠ .start ∨ s.resetHeld = true) :
    exec .startUp s = .next s := by
  show execStartUp s = _
  rw [execStartUp, if_neg]
  rintro ⟨hs, hh⟩
  rcases h with h | h
  · exact h hs
  · cases hh.symm.trans h

/-! Pages that are accepted (R163, R175). -/

section
variable {p : Page} {g : Half}

theorem header?_eq_some {f : HeaderFigures} :
    p.header? = some (g, f) ↔ p = .written (.header f) 0 g true := by
  constructor
  · intro h
    unfold Page.header? at h
    split at h
    · split at h
      · next hread =>
        obtain ⟨rfl, rfl⟩ := hread
        cases h
        rfl
      · cases h
    all_goals cases h
  · rintro rfl
    rfl

theorem settings?_eq_some {x : Settings} :
    p.settings? = some (g, x) ↔ p = .written (.settings x) 1 g true := by
  constructor
  · intro h
    unfold Page.settings? at h
    split at h
    · split at h
      · next hread =>
        obtain ⟨rfl, rfl⟩ := hread
        cases h
        rfl
      · cases h
    all_goals cases h
  · rintro rfl
    rfl

theorem images?_eq_some {k : Fin 64} {v : Vector StoredImage 16} :
    p.images? k = some (g, v) ↔ p = .written (.account v) (k.val + 2) g true := by
  constructor
  · intro h
    unfold Page.images? at h
    split at h
    · split at h
      · next hread =>
        obtain ⟨rfl, rfl⟩ := hread
        cases h
        rfl
      · cases h
    all_goals cases h
  · rintro rfl
    exact if_pos ⟨rfl, rfl⟩

theorem header?_eq_none (h : ∀ f g, p ≠ .written (.header f) 0 g true) : p.header? = none :=
  Option.eq_none_iff_forall_ne_some.mpr fun ⟨g, f⟩ hp => h f g (header?_eq_some.mp hp)

theorem settings?_eq_none (h : ∀ x g, p ≠ .written (.settings x) 1 g true) : p.settings? = none :=
  Option.eq_none_iff_forall_ne_some.mpr fun ⟨g, x⟩ hp => h x g (settings?_eq_some.mp hp)

/-! Page 0 is accepted where it is a readable header, page 1 where it is a settings page that loads, and
an account page where its images load. -/

theorem acceptedAs_zero : p.acceptedAs 0 = p.header?.isSome := by
  cases p with
  | erased | damaged => rfl
  | written body number generation good =>
    cases body <;> rw [Bool.eq_iff_iff] <;> simp [Page.acceptedAs, Page.header?]

theorem acceptedAs_one : p.acceptedAs 1 = p.settings?.isSome := by
  cases p with
  | erased | damaged => rfl
  | written body number generation good =>
    cases body <;> rw [Bool.eq_iff_iff] <;> simp [Page.acceptedAs, Page.settings?]

theorem acceptedAs_accountPage {k : Fin 64} :
    p.acceptedAs (accountPage k) = (p.images? k).isSome := by
  cases p with
  | erased | damaged => rfl
  | written body number generation good =>
    cases body <;> rw [Bool.eq_iff_iff] <;> simp [Page.acceptedAs, Page.images?, accountPage]

end

/-! The header and the end of a start-up. -/

section
variable {s : State}

theorem readHeader_of_header {f : HeaderFigures} {g : Half}
    (h : s.store.array[0] = .written (.header f) 0 g true) :
    s.readHeader =
      { s with store := { s.store with headerGeneration := g, headerFigures := f } } := by
  rw [State.readHeader, header?_eq_some.mpr h]

theorem readHeader_of_none (h : ∀ f g, s.store.array[0] ≠ .written (.header f) 0 g true) :
    s.readHeader =
      { s with store := { s.store with headerGeneration := 0, headerFigures := .zero } } := by
  rw [State.readHeader, header?_eq_none h]

/-- Reading the header changes the header generation and figures alone. -/
theorem readHeader_eq (s : State) :
    s.readHeader = { s with store := { s.store with
      headerGeneration := s.readHeader.store.headerGeneration
      headerFigures := s.readHeader.store.headerFigures } } := by
  unfold State.readHeader
  split <;> rfl

theorem openPort_eq (s : State) :
    s.openPort = { s with
      store := { s.store with state := .idle }
      port := s.port.started } := rfl

theorem startUp_of_blank (h : s.store.startMode = .blank) :
    s.startUp = (s.readHeader.updateStore fun st =>
      { st with rewrite := allPages, restored := .zero }).openPort := by
  have hmode : s.readHeader.store.startMode = .blank := by
    rw [readHeader_eq]
    exact h
  rw [State.startUp]
  simp only [hmode]

theorem startUp_of_restore (h : s.store.startMode = .restore) :
    s.startUp = s.readHeader.restoreTable.openPort := by
  have hmode : s.readHeader.store.startMode = .restore := by
    rw [readHeader_eq]
    exact h
  rw [State.startUp]
  simp only [hmode]

end

/-- Settles O6: the header is read or taken as 0, and the rest of a BLANK start-up is two record
updates. -/
theorem blankStartUpOpensThePort : Obligations.BlankStartUpOpensThePort := by
  refine ⟨fun s hs hh hm g f hheader => ?_, fun s => exec_startUp_of_not_start⟩
  have hread : s.readHeader =
      { s with store := { s.store with headerGeneration := g, headerFigures := f } } := by
    rcases hheader with h | ⟨h, rfl, rfl⟩
    · exact readHeader_of_header h
    · exact readHeader_of_none h
  rw [exec_startUp_of_start hs hh, startUp_of_blank hm, hread]
  rfl

/-! What the pages of a RESTORE start-up count (R175). -/

/-- The figures of `t` are those of `s` with the pages `ps` of the array counted once more, as loaded or
lost and as differing; the array and what the header gave are kept. -/
structure Counted (ps : List (Fin 66)) (s t : State) : Prop where
  array : t.store.array = s.store.array
  generation : t.store.headerGeneration = s.store.headerGeneration
  figures : t.store.headerFigures = s.store.headerFigures
  loaded : t.store.restored.loaded = s.store.restored.loaded +
    ps.countP fun n : Fin 66 => s.store.array[n].acceptedAs n
  lost : t.store.restored.lost = s.store.restored.lost +
    ps.countP fun n : Fin 66 => !s.store.array[n].acceptedAs n
  differing : t.store.restored.differing = s.store.restored.differing +
    ps.countP fun n : Fin 66 => n != 0 && s.store.array[n].acceptedAs n &&
      !s.store.array[n].hasGeneration s.store.headerGeneration

section
variable {s t u : State} {ps qs : List (Fin 66)} {n : Fin 66}

theorem Counted.refl (s : State) : Counted [] s s := ⟨rfl, rfl, rfl, rfl, rfl, rfl⟩

theorem Counted.trans (h : Counted ps s t) (h' : Counted qs t u) : Counted (ps ++ qs) s u := by
  obtain ⟨harray, hgeneration, hfigures, hloaded, hlost, hdiffering⟩ := h
  obtain ⟨harray', hgeneration', hfigures', hloaded', hlost', hdiffering'⟩ := h'
  refine ⟨harray'.trans harray, hgeneration'.trans hgeneration, hfigures'.trans hfigures, ?_, ?_, ?_⟩
  · rw [hloaded', hloaded, harray, List.countP_append, Nat.add_assoc]
  · rw [hlost', hlost, harray, List.countP_append, Nat.add_assoc]
  · rw [hdiffering', hdiffering, harray, hgeneration, List.countP_append, Nat.add_assoc]

/-- The figures stand in the store. -/
theorem Counted.of_store (h : Counted ps s t) (hu : u.store = t.store) : Counted ps s u := by
  obtain ⟨harray, hgeneration, hfigures, hloaded, hlost, hdiffering⟩ := h
  constructor <;> rw [hu] <;> assumption

/-- An accepted page other than the header is counted as loaded, and as differing by its generation. -/
theorem countLoaded_counted {g : Half} (hn : n ≠ 0) (ha : s.store.array[n].acceptedAs n = true)
    (hg : ∀ g', s.store.array[n].hasGeneration g' = (g == g')) :
    Counted [n] s (s.countLoaded g) := by
  refine ⟨rfl, rfl, rfl, ?_, ?_, ?_⟩
  · simp [-Fin.getElem_fin, State.countLoaded, State.figure, ha]
  · simp [-Fin.getElem_fin, State.countLoaded, State.figure, ha]
  · by_cases hs : g = s.store.headerGeneration <;>
      simp [-Fin.getElem_fin, State.countLoaded, State.figure, ha, hg, hn, hs]

theorem countLost_counted (ha : s.store.array[n].acceptedAs n = false) :
    Counted [n] s s.countLost := by
  refine ⟨rfl, rfl, rfl, ?_, ?_, ?_⟩ <;> simp [-Fin.getElem_fin, State.countLost, State.figure, ha]

theorem countHeader_counted (s : State) : Counted [0] s s.countHeader := by
  have ha : s.store.array[(0 : Fin 66)].acceptedAs 0 = s.store.array[0].header?.isSome :=
    acceptedAs_zero
  unfold State.countHeader
  split
  · next x hx =>
    rw [hx] at ha
    refine ⟨rfl, rfl, rfl, ?_, ?_, ?_⟩ <;> simp [-Fin.getElem_fin, State.figure, ha]
  · next hx =>
    rw [hx] at ha
    exact countLost_counted ha

theorem applySettings_counted (x : Settings) : Counted [] s (s.applySettings x) :=
  ⟨rfl, rfl, rfl, rfl, rfl, rfl⟩

theorem loadSettings_counted (s : State) : Counted [1] s s.loadSettings := by
  have ha : s.store.array[(1 : Fin 66)].acceptedAs 1 = s.store.array[1].settings?.isSome :=
    acceptedAs_one
  unfold State.loadSettings
  split
  · next g x hx =>
    rw [hx] at ha
    have hpage : (s.applySettings x).store.array[(1 : Fin 66)] = .written (.settings x) 1 g true :=
      settings?_eq_some.mp hx
    refine (applySettings_counted x).trans (countLoaded_counted (by decide) ha fun g' => ?_)
    rw [hpage]
    rfl
  · next hx =>
    rw [hx] at ha
    exact countLost_counted ha

end

/-! The account table under a RESTORE start-up (R176). -/

/-- `t` is `s` but for the account table, its index and occupancy, the rewrite set, and the counts of
images dropped. -/
def TableChanged (s t : State) : Prop :=
  ∃ table occupancy index rewrite duplicates unplaced, t = { s with
    table := table
    occupancy := occupancy
    index := index
    store := { s.store with
      rewrite := rewrite
      restored := { s.store.restored with duplicates := duplicates, unplaced := unplaced } } }

section
variable {s t u : State}

theorem TableChanged.refl (s : State) : TableChanged s s := ⟨_, _, _, _, _, _, rfl⟩

theorem TableChanged.trans (h : TableChanged s t) (h' : TableChanged t u) : TableChanged s u := by
  obtain ⟨_, _, _, _, _, _, rfl⟩ := h
  obtain ⟨_, _, _, _, _, _, rfl⟩ := h'
  exact ⟨_, _, _, _, _, _, rfl⟩

theorem TableChanged.counted (h : TableChanged s t) : Counted [] s t := by
  obtain ⟨_, _, _, _, _, _, rfl⟩ := h
  exact ⟨rfl, rfl, rfl, rfl, rfl, rfl⟩

theorem joinRewrite_tableChanged (s : State) (k : Fin 64) :
    TableChanged s (s.updateStore fun st => st.joinRewrite k) := ⟨_, _, _, _, _, _, rfl⟩

theorem placeImage_tableChanged (s : State) (i : Slot) (m : StoredImage) :
    TableChanged s (s.placeImage i m) := by
  unfold State.placeImage
  (repeat' split) <;> exact ⟨_, _, _, _, _, _, rfl⟩

/-- Steps that each keep a relation to the state before them keep it in turn. -/
theorem foldl_rel {α : Type} {R : State → State → Prop} {f : State → α → State}
    (refl : ∀ s, R s s) (trans : ∀ {s t u}, R s t → R t u → R s u) (step : ∀ s x, R s (f s x))
    (xs : List α) (s : State) : R s (xs.foldl f s) := by
  induction xs generalizing s with
  | nil => exact refl s
  | cons x xs ih => exact trans (step s x) (ih (f s x))

theorem placePage_tableChanged (s : State) (k : Fin 64) (v : Vector StoredImage 16) :
    TableChanged s (s.placePage k v) := by
  have hfold : TableChanged s (pagePlaces.foldl (fun t j => t.placeImage (pageSlot k j) v[j]) s) :=
    foldl_rel .refl .trans (fun t j => placeImage_tableChanged t (pageSlot k j) v[j]) _ s
  unfold State.placePage
  dsimp only
  split
  · exact hfold
  · exact hfold.trans (joinRewrite_tableChanged _ k)

theorem accountPage_ne_zero (k : Fin 64) : accountPage k ≠ 0 := by
  intro h
  have := congrArg Fin.val h
  simp [accountPage] at this

theorem loadPage_counted (s : State) (k : Fin 64) : Counted [accountPage k] s (s.loadPage k) := by
  have ha : s.store.array[accountPage k].acceptedAs (accountPage k) =
      (s.store.array[accountPage k].images? k).isSome := acceptedAs_accountPage
  unfold State.loadPage
  split
  · next g v hv =>
    rw [hv] at ha
    refine (countLoaded_counted (accountPage_ne_zero k) ha fun g' => ?_).trans
      (placePage_tableChanged _ k v).counted
    rw [images?_eq_some.mp hv]
    rfl
  · next hv =>
    rw [hv] at ha
    exact (countLost_counted ha).trans (joinRewrite_tableChanged _ k).counted

/-- The account pages are counted page by page. -/
theorem foldl_loadPage_counted (ks : List (Fin 64)) (s : State) :
    Counted (ks.map accountPage) s (ks.foldl State.loadPage s) := by
  induction ks generalizing s with
  | nil => exact .refl s
  | cons k ks ih => exact (loadPage_counted s k).trans (ih _)

end

/-! The settings under a RESTORE start-up (R175, R177). -/

/-- `t` has the settings of `s`, and its clocks, lines and port. -/
structure SettingsKept (s t : State) : Prop where
  tariff : t.tariff = s.tariff
  lines : t.lines = s.lines
  policy : t.discovery.policy = s.discovery.policy
  gracePeriod : t.supv.gracePeriod = s.supv.gracePeriod
  silenceLimit : t.supv.silenceLimit = s.supv.silenceLimit
  uptime : t.supv.uptime = s.supv.uptime
  calendar : t.supv.calendar = s.supv.calendar
  mask : ∀ g : GroupNo, t.notices.groups[g].mask = s.notices.groups[g].mask
  priority : ∀ g : GroupNo, t.notices.groups[g].priority = s.notices.groups[g].priority
  enable : t.notices.enable = s.notices.enable
  port : t.port = s.port

section
variable {s t u : State}

/-- Two states that agree in the blocks with settings have the same settings. -/
theorem SettingsKept.of_blocks (tariff : t.tariff = s.tariff) (lines : t.lines = s.lines)
    (discovery : t.discovery = s.discovery) (supv : t.supv = s.supv)
    (notices : t.notices = s.notices) (port : t.port = s.port) : SettingsKept s t := by
  refine ⟨tariff, lines, ?_, ?_, ?_, ?_, ?_, ?_, ?_, ?_, port⟩ <;> simp [discovery, supv, notices]

theorem SettingsKept.refl (s : State) : SettingsKept s s := .of_blocks rfl rfl rfl rfl rfl rfl

theorem SettingsKept.trans (h : SettingsKept s t) (h' : SettingsKept t u) : SettingsKept s u where
  tariff := h'.tariff.trans h.tariff
  lines := h'.lines.trans h.lines
  policy := h'.policy.trans h.policy
  gracePeriod := h'.gracePeriod.trans h.gracePeriod
  silenceLimit := h'.silenceLimit.trans h.silenceLimit
  uptime := h'.uptime.trans h.uptime
  calendar := h'.calendar.trans h.calendar
  mask g := (h'.mask g).trans (h.mask g)
  priority g := (h'.priority g).trans (h.priority g)
  enable := h'.enable.trans h.enable
  port := h'.port.trans h.port

theorem TableChanged.settingsKept (h : TableChanged s t) : SettingsKept s t := by
  obtain ⟨_, _, _, _, _, _, rfl⟩ := h
  exact .of_blocks rfl rfl rfl rfl rfl rfl

/-- Counting a page changes the restore figures alone. -/
theorem figure_settingsKept (s : State) (f : RestoreFigures → RestoreFigures) :
    SettingsKept s (s.figure f) := .of_blocks rfl rfl rfl rfl rfl rfl

theorem countHeader_settingsKept (s : State) : SettingsKept s s.countHeader := by
  unfold State.countHeader
  split <;> exact figure_settingsKept s _

theorem loadPage_settingsKept (s : State) (k : Fin 64) : SettingsKept s (s.loadPage k) := by
  unfold State.loadPage
  split
  · exact (figure_settingsKept s _).trans (placePage_tableChanged _ k _).settingsKept
  · exact (figure_settingsKept s _).trans (joinRewrite_tableChanged _ k).settingsKept

/-- A group that gains kinds keeps its mask and priority, and the others are as they were. -/
theorem gained_mask_priority {m n : Notices} {g h : GroupNo} {ks : KindSet} (hg : m.Gained n g ks) :
    n.groups[h].mask = m.groups[h].mask ∧ n.groups[h].priority = m.groups[h].priority := by
  by_cases he : h = g
  · subst he
    exact ⟨hg.mask, hg.priority⟩
  · rw [hg.others h he]
    exact ⟨rfl, rfl⟩

/-- A kind set changes a record, the counts and the states of groups, and no setting. -/
theorem setKind_settingsKept (s : State) (i : Slot) (k : NoticeKind) :
    SettingsKept s (s.setKind i k) where
  tariff := s.setKind_tariff i k
  lines := s.setKind_lines i k
  policy := by rw [State.setKind_discovery]
  gracePeriod := by rw [State.setKind_supv]
  silenceLimit := by rw [State.setKind_supv]
  uptime := by rw [State.setKind_supv]
  calendar := by rw [State.setKind_supv]
  mask _ := (gained_mask_priority (s.setKind_gained i k)).1
  priority _ := (gained_mask_priority (s.setKind_gained i k)).2
  enable := (s.setKind_gained i k).enable
  port := s.setKind_port i k

/-- CLOSED notices, and then the high-water mark. -/
theorem closeAndMark_settingsKept (h : SettingsKept s t) (is : List Slot) (mark : Nat) :
    SettingsKept s { is.foldl (fun t i => t.setKind i .closed) t with highWater := mark } := by
  have hkinds : SettingsKept t (is.foldl (fun t i => t.setKind i .closed) t) :=
    foldl_rel .refl .trans (fun t i => setKind_settingsKept t i .closed) is t
  exact (h.trans hkinds).trans (.of_blocks rfl rfl rfl rfl rfl rfl)

/-- Finishing the table fills the lists, sets CLOSED notices and the mark, and leaves the rest (R177). -/
theorem finishTable_settingsKept (s : State) : SettingsKept s s.finishTable := by
  unfold State.finishTable
  refine closeAndMark_settingsKept ?_ _ _
  exact ⟨rfl, rfl, rfl, rfl, rfl, rfl, rfl, fun _ => rfl, fun _ => rfl, rfl, rfl⟩

theorem finishTable_store (s : State) : s.finishTable.store = s.store := by
  unfold State.finishTable
  dsimp only
  exact foldl_rel (R := fun s t => t.store = s.store) (fun _ => rfl) (fun h h' => h'.trans h)
    (fun t i => t.setKind_store i .closed) _ _

/-- `s` with the settings of its settings page, where that is accepted (R175). -/
def settled (s : State) : State :=
  match s.store.array[1].settings? with
  | some (_, x) => s.applySettings x
  | none => s

theorem settled_of_settings {x : Settings} {g : Half}
    (h : s.store.array[1] = .written (.settings x) 1 g true) : settled s = s.applySettings x := by
  rw [settled, settings?_eq_some.mpr h]

theorem settled_of_none (h : ∀ x g, s.store.array[1] ≠ .written (.settings x) 1 g true) :
    settled s = s := by
  rw [settled, settings?_eq_none h]

/-- The settings page has no clock, no line mode, no NOTE enable and nothing of the port. -/
theorem settled_kept (s : State) :
    (settled s).supv.uptime = s.supv.uptime ∧ (settled s).supv.calendar = s.supv.calendar ∧
      (settled s).port = s.port ∧ (settled s).notices.enable = s.notices.enable ∧
      ∀ n : LineNo, (settled s).lines[n].mode = s.lines[n].mode := by
  unfold settled
  split
  · exact ⟨rfl, rfl, rfl, rfl, fun n => by simp [State.applySettings]⟩
  · exact ⟨rfl, rfl, rfl, rfl, fun n => rfl⟩

theorem applySettings_settingsKept (h : SettingsKept s t) (x : Settings) :
    SettingsKept (s.applySettings x) (t.applySettings x) where
  tariff := rfl
  lines := by simp only [State.applySettings, h.lines]
  policy := rfl
  gracePeriod := rfl
  silenceLimit := rfl
  uptime := h.uptime
  calendar := h.calendar
  mask g := by simp [State.applySettings]
  priority g := by simp [State.applySettings]
  enable := h.enable
  port := h.port

theorem settled_settingsKept (h : SettingsKept s t) (ha : t.store.array = s.store.array) :
    SettingsKept (settled s) (settled t) := by
  unfold settled
  rw [ha]
  split
  · exact applySettings_settingsKept h _
  · exact h

theorem loadSettings_settingsKept (s : State) : SettingsKept (settled s) s.loadSettings := by
  unfold settled State.loadSettings
  cases s.store.array[1].settings? with
  | some gx => exact figure_settingsKept _ _
  | none => exact figure_settingsKept _ _

/-- The settings after a restore are those of the settings page, or those that stood. -/
theorem restoreTable_settingsKept (s : State) : SettingsKept (settled s) s.restoreTable := by
  have hheader := settled_settingsKept (countHeader_settingsKept s) (countHeader_counted s).array
  have hpages := foldl_rel (R := SettingsKept) .refl .trans loadPage_settingsKept allPages
    s.countHeader.loadSettings
  exact (hheader.trans (loadSettings_settingsKept _)).trans
    (hpages.trans (finishTable_settingsKept _))

/-- The 66 pages: header, settings page, account pages (R160). -/
theorem finRange_eq_pages : List.finRange 66 = [0] ++ ([1] ++ allPages.map accountPage) := by
  rw [List.finRange_succ, List.finRange_succ, List.map_cons, List.map_map]
  rfl

/-- A restore counts every page of the array once. -/
theorem restoreTable_counted (s : State) : Counted (List.finRange 66) s s.restoreTable := by
  rw [finRange_eq_pages]
  exact ((countHeader_counted s).trans ((loadSettings_counted _).trans
    (foldl_loadPage_counted allPages _))).of_store (finishTable_store _)

/-- Every setting of a settings page that was loaded stands in its block (R162, R175). -/
theorem settings_of_applySettings {x : Settings} (h : SettingsKept (s.applySettings x) t) :
    t.tariff = { live := x.live, staged := x.live, band := x.band } ∧
      t.supv.gracePeriod = x.gracePeriod ∧ t.supv.silenceLimit = x.silenceLimit ∧
      t.discovery.policy = x.policy ∧
      (∀ k : GroupNo, (t.notices.groups[k].mask, t.notices.groups[k].priority) = x.groups[k]) ∧
      ∀ n : LineNo, (t.lines[n].rate, t.lines[n].window) = x.lines[n] := by
  refine ⟨h.tariff, h.gracePeriod, h.silenceLimit, h.policy, fun k => ?_, fun n => ?_⟩
  · rw [h.mask, h.priority]
    simp [State.applySettings]
  · rw [h.lines]
    simp [State.applySettings]

/-- Without a settings page the settings are the reset values (R162, R175). -/
theorem settings_of_atReset (hs : s.AtReset) (h : SettingsKept s t) :
    t.tariff = s.tariff ∧ t.supv.gracePeriod = 0 ∧ t.supv.silenceLimit = 0 ∧
      t.discovery.policy = .hold ∧
      (∀ k : GroupNo, t.notices.groups[k].mask = 0x7F ∧ t.notices.groups[k].priority = .low) ∧
      t.lines = s.lines := by
  obtain ⟨hsilence, hgrace⟩ := hs.limits
  refine ⟨h.tariff, h.gracePeriod.trans hgrace, h.silenceLimit.trans hsilence, ?_, fun k => ?_,
    h.lines⟩
  · rw [h.policy, hs.discovery]
    rfl
  · rw [h.mask, h.priority, hs.notices]
    simp [Notices.reset, Group.reset]

/-- Reading the header touches no setting. -/
theorem readHeader_settingsKept (s : State) : SettingsKept s s.readHeader := by
  rw [readHeader_eq]
  exact .of_blocks rfl rfl rfl rfl rfl rfl

theorem readHeader_array (s : State) : s.readHeader.store.array = s.store.array := by
  rw [readHeader_eq]

theorem readHeader_restored (s : State) :
    s.readHeader.store.restored = s.store.restored := by
  rw [readHeader_eq]

end

/-- Settles O7: `Counted` says what the pages count, `SettingsKept` that the settings of the settings
page stand at the end. -/
theorem restoreStartUpReadsThePages : Obligations.RestoreStartUpReadsThePages := by
  intro s hreset hh hs hm
  have hexec : exec .startUp s = .next s.readHeader.restoreTable.openPort := by
    rw [exec_startUp_of_start hs hh, startUp_of_restore hm]
  have hcounted := restoreTable_counted s.readHeader
  have hkept : SettingsKept (settled s) s.readHeader.restoreTable :=
    (settled_settingsKept (readHeader_settingsKept s) (readHeader_array s)).trans
      (restoreTable_settingsKept s.readHeader)
  obtain ⟨huptime, hcalendar, hport, henable, hmode⟩ := settled_kept s
  have hzero : s.readHeader.store.restored = .zero := (readHeader_restored s).trans hreset.restored
  have hloaded := hcounted.loaded
  have hlost := hcounted.lost
  have hdiffering := hcounted.differing
  rw [hzero, readHeader_array] at hloaded hlost hdiffering
  -- A variable for the restored state keeps the unifier from evaluating the restore.
  generalize s.readHeader.restoreTable = t at hexec hcounted hkept hloaded hlost hdiffering
  refine ⟨t.openPort, hexec, rfl, ?_, ?_, ?_, ?_, ?_, ?_, ?_, ?_, ?_, ?_, ?_, ?_, ?_⟩
  · exact hcounted.array.trans (readHeader_array s)
  · exact hloaded.trans (Nat.zero_add _)
  · exact hlost.trans (Nat.zero_add _)
  · rw [← hcounted.generation] at hdiffering
    exact hdiffering.trans (Nat.zero_add _)
  · exact hkept.uptime.trans huptime
  · exact hkept.calendar.trans hcalendar
  · show t.port.started = _
    rw [hkept.port, hport]
  · exact (hkept.enable.trans henable).trans (by rw [hreset.notices]; rfl)
  · intro n
    show t.lines[n].mode = _
    rw [hkept.lines, hmode, hreset.lines]
    simp [Line.reset]
  · intro f g hheader
    have hread := readHeader_of_header hheader
    exact ⟨hcounted.generation.trans (by rw [hread]), hcounted.figures.trans (by rw [hread])⟩
  · intro hnone
    have hread := readHeader_of_none hnone
    exact ⟨hcounted.generation.trans (by rw [hread]), hcounted.figures.trans (by rw [hread]; rfl)⟩
  · intro x g hpage
    rw [settled_of_settings hpage] at hkept
    exact settings_of_applySettings (t := t) hkept
  · intro hnone
    rw [settled_of_none hnone] at hkept
    exact settings_of_atReset (t := t) hreset hkept

end Sys2Proof.Proofs.StartUp

/-! ### The queues of the host port: every command keeps their room (R180, R181, R185, R186) -/

namespace Sys2Proof.Proofs.PortQueues

open Sys2Proof Sys2Proof.Machine
open Sys2Proof.Proofs.NoticeRequests (fetchCleared fetchAccount_eq)
open Sys2Proof.Proofs.StorePages (capturePage_eq)
open Sys2Proof.Proofs.StartUp
  (readHeader_eq startUp_of_blank startUp_of_restore settled_kept restoreTable_settingsKept)

/-! The rule of the queues, and what a command can do to the port. -/

/-- The rule of `State.QueuesOk`, which looks at the port alone. -/
structure QueuesFit (p : Port) : Prop where
  requests : p.requests.length ≤ 256
  responses : p.responses.length ≤ 512
  room : p.executing ≠ none → p.responses.length + 64 ≤ 512

theorem queuesOk_iff {s : State} : s.QueuesOk ↔ QueuesFit s.port :=
  ⟨fun h => ⟨h.requests, h.responses, h.room⟩, fun h => ⟨h.requests, h.responses, h.room⟩⟩

/-- Port `q` holds no more responses than `p`, no request that `p` had not in execution, and request
bytes within the room if `p` did. -/
structure Drained (p q : Port) : Prop where
  requests : p.requests.length ≤ 256 → q.requests.length ≤ 256
  responses : q.responses.length ≤ p.responses.length
  executing : p.executing = none → q.executing = none

/-- What a command leaves of the port: no more than there was, the answer of the request in execution
(R186), the request or the fault that the executor found (R185), or the FAULT response of an OVERFLOW
(R187). -/
inductive PortMove (p : Port) : Port → Prop
  | drained {q : Port} (h : Drained p q) : PortMove p q
  | answered {r : Request} {a : Answer} (hr : p.executing = some r) (ha : a.bytes.length ≤ 60) :
    PortMove p { p with
      executing := none
      responses := p.responses ++ responseBytes r.tag r.req.code a }
  | taken (h : p.mayTake = true) : PortMove p p.take
  | overflowAnswered (h : p.owesFaultResponse = true) :
    PortMove p { p with
      faultResponse := false
      responses := p.responses ++ responseBytes 0x00 0x00 FaultCause.overflow.answer }

section
variable {p q u : Port}

theorem Drained.refl (p : Port) : Drained p p := ⟨id, Nat.le_refl _, id⟩

theorem Drained.trans (h : Drained p q) (h' : Drained q u) : Drained p u where
  requests := h'.requests ∘ h.requests
  responses := Nat.le_trans h'.responses h.responses
  executing := h'.executing ∘ h.executing

theorem Drained.queuesFit (h : Drained p q) (hp : QueuesFit p) : QueuesFit q where
  requests := h.requests hp.requests
  responses := Nat.le_trans h.responses hp.responses
  room := fun hq => by
    have hroom := hp.room fun hnone => hq (h.executing hnone)
    have hle := h.responses
    omega

theorem PortMove.of_eq (h : q = p) : PortMove p q := by
  rw [h]
  exact .drained (.refl p)

/-- A response is its header of four bytes and its result bytes (R184). -/
theorem length_responseBytes (tag code : Byte) (a : Answer) :
    (responseBytes tag code a).length = a.bytes.length + 4 := by
  simp [responseBytes]

/-- Where the executor may look at a header, its response finds room (R185). -/
theorem mayTake_iff : p.mayTake = true ↔
    p.state = .ready ∧ p.executing = none ∧ 3 ≤ p.requests.length ∧
      p.responses.length + 64 ≤ 512 := by
  simp [Port.mayTake, Port.hasRoom, Config.responseRoom, and_assoc]

/-- The FAULT response of an OVERFLOW waits for its five bytes (R187). -/
theorem owesFaultResponse_iff : p.owesFaultResponse = true ↔
    p.faultResponse = true ∧ p.state ≠ .start ∧ p.executing = none ∧
      p.responses.length + 5 ≤ 512 := by
  simp [Port.owesFaultResponse, Config.responseRoom, and_assoc]

/-- A port fault adds one FAULT response of five bytes (R185). -/
theorem headerFault_queuesFit (hp : QueuesFit p) (hx : p.executing = none)
    (hroom : p.responses.length + 64 ≤ 512) (tag code : Byte) (c : FaultCause) :
    QueuesFit (p.headerFault tag code c) where
  requests := hp.requests
  responses := by
    simp only [Port.headerFault, List.length_append, length_responseBytes, FaultCause.answer,
      List.length_singleton]
    omega
  room := fun h => absurd hx h

/-- The executor takes a request, or answers a fault, where 64 bytes are free. -/
theorem take_queuesFit (hp : QueuesFit p) (h : p.mayTake = true) : QueuesFit p.take := by
  obtain ⟨_, hx, _, hroom⟩ := mayTake_iff.mp h
  unfold Port.take
  dsimp only
  split
  · exact headerFault_queuesFit hp hx hroom _ _ _
  · split
    · exact headerFault_queuesFit hp hx hroom _ _ _
    · split
      · exact hp
      · refine ⟨?_, hp.responses, fun _ => hroom⟩
        exact Nat.le_trans (List.drop_sublist _ _).length_le hp.requests

/-- Every move keeps the rule: what it adds to the responses, it finds room for. -/
theorem PortMove.queuesFit (h : PortMove p q) (hp : QueuesFit p) : QueuesFit q := by
  cases h with
  | drained h => exact h.queuesFit hp
  | @answered r a hr ha =>
    have hroom := hp.room (by simp [hr])
    refine ⟨hp.requests, ?_, fun h => absurd rfl h⟩
    simp only [List.length_append, length_responseBytes]
    omega
  | taken h => exact take_queuesFit hp h
  | overflowAnswered h =>
    obtain ⟨_, _, hx, hroom⟩ := owesFaultResponse_iff.mp h
    refine ⟨hp.requests, ?_, fun h => absurd hx h⟩
    simp only [List.length_append, length_responseBytes, FaultCause.answer, List.length_singleton]
    omega

end

/-! SPI transactions append within the request room, and take from the responses (R180, R181). -/

section
variable (p : Port)

theorem flush_drained : Drained p p.flush := ⟨fun _ => Nat.zero_le _, Nat.le_refl _, id⟩

theorem writeByte_drained (b : Byte) : Drained p (p.writeByte b) := by
  unfold Port.writeByte
  split
  · exact .refl p
  · split
    · next hroom =>
      refine ⟨fun _ => ?_, Nat.le_refl _, id⟩
      show (p.requests ++ [b]).length ≤ Config.requestRoom
      rw [List.length_append, List.length_singleton]
      exact hroom
    · exact ⟨id, Nat.le_refl _, id⟩

theorem firstBit_drained (x : Spi) : Drained p (p.firstBit x) := by
  unfold Port.firstBit
  split
  · exact ⟨id, by simp, id⟩
  all_goals exact .refl p

theorem eighthBit_drained (x : Spi) (b : Byte) : Drained p (p.eighthBit x b) := by
  unfold Port.eighthBit
  split
  · exact writeByte_drained p b
  · exact ⟨id, Nat.le_refl _, id⟩
  all_goals exact .refl p

theorem byteTime_drained (b : Byte) : Drained p (p.byteTime b) := by
  unfold Port.byteTime
  split
  · exact .refl p
  · next x _ =>
    obtain ⟨hreq, hresp, hx⟩ := (firstBit_drained p x).trans (eighthBit_drained _ x b)
    exact ⟨hreq, hresp, hx⟩

theorem endTransaction_drained (n : Fin 8) : Drained p (p.endTransaction n) := by
  unfold Port.endTransaction
  split
  · exact .refl p
  · next x _ =>
    have hbit : Drained p (if n = 0 then p else p.firstBit x) := by
      split
      · exact .refl p
      · exact firstBit_drained p x
    exact ⟨hbit.requests, hbit.responses, hbit.executing⟩

theorem shift_drained (received : List Byte) (ends : Option (Fin 8)) :
    Drained p (p.shift received ends) := by
  have hbytes : Drained p (received.foldl Port.byteTime p) := by
    induction received generalizing p with
    | nil => exact .refl p
    | cons b bs ih => exact (byteTime_drained p b).trans (ih _)
  unfold Port.shift
  dsimp only
  split
  · exact hbytes
  · exact hbytes.trans (endTransaction_drained _ _)

theorem beginTransaction_drained (s : State) (first : Byte) :
    Drained s.port (s.beginTransaction first) := by
  have hopened : ∀ x, Drained s.port { s.port with spi := x, miso := [0x00], misoBits := [] } :=
    fun _ => ⟨id, Nat.le_refl _, id⟩
  unfold State.beginTransaction
  dsimp only
  split
  · exact (hopened _).trans (flush_drained _)
  · exact hopened _

theorem spiPiece_drained (s : State) (first : Byte) (piece : SpiPiece) :
    Drained s.port (s.spiPiece first piece).port := by
  unfold State.spiPiece
  split
  · exact .refl _
  · split
    · exact (beginTransaction_drained s first).trans (shift_drained _ _ _)
    · split
      · exact shift_drained _ _ _
      · exact .refl _
    all_goals exact .refl _

end

/-! The work of a request leaves the port, and answers at most 60 result bytes (R184, R186). -/

/-- What the work of a request on `s` gives: the port as it stood, and an answer within its room. -/
structure Responds (s : State) (d : State × Answer) : Prop where
  port : d.1.port = s.port
  length : d.2.bytes.length ≤ 60

section
variable {s t : State} {bs : List Byte}

theorem Responds.ok (ht : t.port = s.port) (hb : bs.length ≤ 60) : Responds s (t, .ok bs) :=
  ⟨ht, hb⟩

theorem Responds.refuse (s : State) (x : Result) : Responds s (s.refuse x) := ⟨rfl, Nat.zero_le _⟩

theorem Responds.stateAnswer (ht : t.port = s.port) (i : Slot) : Responds s (t.stateAnswer i) :=
  ⟨ht, by simp [State.stateAnswer, Answer.ok]⟩

theorem Responds.onAccount {slot : Option Slot} {work : Slot → State × Answer}
    (h : ∀ i, Responds s (work i)) : Responds s (s.onAccount slot work) := by
  unfold State.onAccount
  split
  · exact .refuse s _
  · split
    · exact .refuse s _
    · exact h _

/-- A granted request adds its answer, or nothing happens. -/
theorem grantRequest_portMove (s : State) (q : Req) {work : List Byte → State → State × Answer}
    (h : ∀ ps t, Responds t (work ps t)) : PortMove s.port (s.grantRequest q work).port := by
  rcases s.grantRequest_cases q work with e | ⟨r, _, hr, _, _, e⟩
  · exact .of_eq (by rw [e])
  · obtain ⟨hport, hlength⟩ := h r.params (s.turn .exec)
    rw [e, State.finish_port, hport]
    exact .answered hr hlength

/-- A request without a grant adds its answer, or nothing happens. -/
theorem directRequest_portMove (s : State) (q : Req) {work : List Byte → State → State × Answer}
    (h : ∀ ps t, Responds t (work ps t)) : PortMove s.port (s.directRequest q work).port := by
  rcases s.directRequest_cases q work with e | ⟨r, _, hr, _, e⟩
  · exact .of_eq (by rw [e])
  · obtain ⟨hport, hlength⟩ := h r.params s
    rw [e, State.finish_port, hport]
    exact .answered hr hlength

end

/-! How many bytes each field takes (0.5). -/

@[simp] theorem length_bytes16 (v : Half) : (bytes16 v).length = 2 := rfl
@[simp] theorem length_bytes32 (v : Word) : (bytes32 v).length = 4 := rfl
@[simp] theorem length_bytes48 (v : BitVec 48) : (bytes48 v).length = 6 := rfl
@[simp] theorem length_num8 (n : Nat) : (num8 n).length = 1 := rfl
@[simp] theorem length_num16 (n : Nat) : (num16 n).length = 2 := rfl
@[simp] theorem length_slotBytes (i : Slot) : (slotBytes i).length = 2 := rfl
@[simp] theorem length_optionalWord (o : Option Word) : (optionalWord o).length = 4 := rfl

theorem length_accountBytes (i : Slot) (r : Record) (low : Credit) :
    (accountBytes i r low).length = 42 := by
  unfold accountBytes
  simp only [List.length_append, length_slotBytes, length_bytes48, length_num8, length_bytes32,
    length_optionalWord, length_bytes16, List.length_singleton]

theorem length_shadowBytes (id : Half) (i : Slot) (f : ShadowFields) :
    (shadowBytes id i f).length = 23 := by
  simp [shadowBytes]

@[simp] theorem length_counterBytes (c : LineCounters) : c.bytes.length = 20 := by
  simp [LineCounters.bytes]

theorem length_lineStatusBytes (n : LineNo) (l : Line) : (l.statusBytes n).length = 29 := by
  simp [Line.statusBytes]

theorem length_tariffBytes (t : TariffClass) : t.bytes.length = 20 := by
  simp [TariffClass.bytes]

theorem length_groupStatusBytes (n : GroupNo) (g : Group) : (g.statusBytes n).length = 18 := by
  simp [Group.statusBytes, kindNumbers]

theorem length_totalBytes (sn : Snapshot) : sn.totalBytes.length = 20 := by
  simp [Snapshot.totalBytes]

theorem length_storeStatusBytes (st : Store) : st.statusBytes.length = 21 := by
  simp [Store.statusBytes]

theorem length_finalFigures (a : AccountImage) : (finalFigures a).length = 15 := by
  simp [finalFigures]

theorem length_fetchBytes (g : GroupNo) (i : Slot) (a : AccountImage) (ks : KindSet) (freed : Bool) :
    (fetchBytes g i a ks freed).length = 20 := by
  simp [fetchBytes]

/-- TABLE_STATUS sends FFFFh where no slot is FREE (R25). -/
theorem length_freeSlotBytes (o : Option Slot) :
    ((o.map slotBytes).getD [0xFF, 0xFF]).length = 2 := by
  cases o <;> rfl

/-! The work of the requests on accounts. -/

section
variable (ps : List Byte) (s : State) (i : Slot)

theorem enrolAccount_port (ix : Index) (a : AccountImage) :
    (s.enrolAccount i ix a).port = s.port := by
  simp [State.enrolAccount]

theorem changeAccount_port (f : AccountImage → AccountImage) {after : State → State}
    (h : ∀ t, (after t).port = t.port) : (s.changeAccount i f after).port = s.port := by
  simp [State.changeAccount, h]

theorem enrolWork_responds : Responds s (enrolWork ps s) := by
  unfold enrolWork
  split
  · exact .refuse s _
  · split
    · exact .refuse s _
    · split
      · split
        · exact .refuse s _
        · split
          · exact .refuse s _
          · split
            · exact .refuse s _
            · exact .ok (enrolAccount_port ..) (by simp)
      · exact .refuse s _

theorem accountReadWork_responds : Responds s (accountReadWork ps s) :=
  .onAccount fun i => .ok rfl (by simp [length_accountBytes])

theorem findWork_responds : Responds s (findWork ps s) := by
  unfold findWork
  split
  · exact .refuse s _
  · split
    · exact .refuse s _
    · exact .ok rfl (by simp)

theorem tableStatusWork_responds : Responds s (tableStatusWork ps s) :=
  .ok rfl (by
    simp only [List.length_append, length_freeSlotBytes, length_num16, length_num8]
    decide)

theorem highwaterResetWork_responds : Responds s (highwaterResetWork ps s) := .ok rfl (by simp)

theorem setClassWork_responds : Responds s (setClassWork ps s) := by
  unfold setClassWork
  split
  · exact .refuse s _
  · refine .onAccount fun i => ?_
    split
    · exact .refuse s _
    · exact .stateAnswer (changeAccount_port s i _ fun t => t.evaluate_port i) i

theorem setGroupWork_responds : Responds s (setGroupWork ps s) := by
  unfold setGroupWork
  split
  · exact .refuse s _
  · refine .onAccount fun i => ?_
    split
    · exact .ok rfl (by simp)
    · exact .ok (changeAccount_port s i _ fun _ => rfl) (by simp)

theorem setLowWork_responds : Responds s (setLowWork ps s) := by
  unfold setLowWork
  split
  · exact .refuse s _
  · exact .onAccount fun i => .stateAnswer (changeAccount_port s i _ fun t => t.evaluate_port i) i

theorem retireWork_responds : Responds s (retireWork ps s) := by
  refine .onAccount fun i => ?_
  split
  · exact .refuse s _
  · exact .ok (changeAccount_port s i _ fun _ => State.setKind_port ..) (by simp)

theorem purgeWork_responds : Responds s (purgeWork ps s) :=
  .onAccount fun i => .ok (s.freeSlot_port i) (by simp [length_finalFigures])

theorem adjustWork_responds : Responds s (adjustWork ps s) := by
  unfold adjustWork
  split
  · exact .refuse s _
  · refine .onAccount fun i => ?_
    dsimp only
    split
    · exact .ok (changeAccount_port s i _ fun t => by simp) (by simp)
    · exact .refuse s _

theorem suspendWork_responds : Responds s (suspendWork ps s) := by
  refine .onAccount fun i => ?_
  dsimp only
  split
  · exact .refuse s _
  · split
    · exact .ok rfl (by simp)
    · exact .ok (changeAccount_port s i _ fun _ => rfl) (by simp)

theorem unsuspendWork_responds : Responds s (unsuspendWork ps s) := by
  refine .onAccount fun i => ?_
  dsimp only
  split
  · exact .stateAnswer rfl i
  · exact .stateAnswer (changeAccount_port s i _ fun t => t.evaluate_port i) i

/-! The work of the requests of the tariff unit and of the lines. -/

theorem tariffStageWork_responds : Responds s (tariffStageWork ps s) := by
  unfold tariffStageWork
  split
  · exact .refuse s _
  · exact .ok rfl (by simp)

theorem tariffReadWork_responds : Responds s (tariffReadWork ps s) := by
  unfold tariffReadWork
  split
  · exact .ok rfl (by simp [length_tariffBytes])
  · exact .refuse s _

theorem tariffCommitWork_responds : Responds s (tariffCommitWork ps s) := by
  unfold tariffCommitWork
  split
  · exact ⟨rfl, by simp⟩
  · exact .ok rfl (by simp)

theorem tariffDiscardWork_responds : Responds s (tariffDiscardWork ps s) := .ok rfl (by simp)

theorem setBandWork_responds : Responds s (setBandWork ps s) := by
  unfold setBandWork
  split
  · exact .refuse s _
  · exact .ok rfl (by simp)

theorem lineConfigWork_responds : Responds s (lineConfigWork ps s) := by
  unfold lineConfigWork
  split
  · dsimp only
    split
    · exact .refuse s _
    · split
      · exact .refuse s _
      · exact .ok rfl (by simp)
  · exact .refuse s _

theorem lineModeWork_responds : Responds s (lineModeWork ps s) := by
  unfold lineModeWork
  split
  · exact .ok rfl (by simp)
  · exact .refuse s _

theorem lineStatusWork_responds : Responds s (lineStatusWork ps s) := by
  unfold lineStatusWork
  split
  · exact .refuse s _
  · exact .ok rfl (by simp [length_lineStatusBytes])

theorem lineClearWork_responds : Responds s (lineClearWork ps s) := by
  unfold lineClearWork
  split
  · exact .refuse s _
  · exact .ok rfl (by simp)

/-! The work of the requests of the discovery list and of supervision. -/

theorem setUnknownPolicyWork_responds : Responds s (setUnknownPolicyWork ps s) := by
  unfold setUnknownPolicyWork
  split
  · exact .refuse s _
  · exact .ok rfl (by simp)

theorem discoveryTakeWork_responds : Responds s (discoveryTakeWork ps s) := by
  unfold discoveryTakeWork
  split
  · exact .refuse s _
  · exact .ok rfl (by simp)

theorem discoveryClearWork_responds : Responds s (discoveryClearWork ps s) := .ok rfl (by simp)

theorem setSilenceWork_responds : Responds s (setSilenceWork ps s) := by
  unfold setSilenceWork
  split
  · exact .ok rfl (by simp)
  · exact .refuse s _

theorem setGraceWork_responds : Responds s (setGraceWork ps s) := .ok rfl (by simp)

theorem setTimeWork_responds : Responds s (setTimeWork ps s) := .ok rfl (by simp)

theorem readTimeWork_responds : Responds s (readTimeWork ps s) := .ok rfl (by simp)

/-! The work of the requests of the notice controller. -/

theorem groupConfigWork_responds : Responds s (groupConfigWork ps s) := by
  unfold groupConfigWork
  split
  · exact .ok rfl (by simp)
  · exact .refuse s _

theorem fetchFrom_responds (g : GroupNo) : Responds s (s.fetchFrom g) := by
  unfold State.fetchFrom
  split
  · next i _ =>
    rw [fetchAccount_eq]
    refine .ok ?_ (by simp [length_fetchBytes])
    split <;> simp [fetchCleared]
  · exact ⟨rfl, by simp⟩

theorem noticeFetchWork_responds : Responds s (noticeFetchWork ps s) := by
  unfold noticeFetchWork
  split
  · split
    · exact fetchFrom_responds s _
    · exact ⟨rfl, by simp⟩
  · split
    · exact fetchFrom_responds s _
    · exact .refuse s _

theorem noticeAckWork_responds : Responds s (noticeAckWork ps s) := by
  unfold noticeAckWork
  split
  · exact .refuse s _
  · exact .ok rfl (by simp)

theorem noticeClearWork_responds : Responds s (noticeClearWork ps s) := by
  unfold noticeClearWork
  split
  · exact .refuse s _
  · refine .onAccount fun i => ?_
    dsimp only
    split
    · exact .ok rfl (by simp)
    · exact .ok (s.copyBeforeWrite_port i) (by simp)

theorem noticeEnableWork_responds : Responds s (noticeEnableWork ps s) := by
  unfold noticeEnableWork
  dsimp only
  split
  · exact .ok rfl (by simp)
  · split
    · exact .ok rfl (by simp)
    · exact .refuse s _

theorem groupStatusWork_responds : Responds s (groupStatusWork ps s) := by
  unfold groupStatusWork
  split
  · exact .refuse s _
  · exact .ok rfl (by simp [length_groupStatusBytes])

/-! The work of the requests of the snapshot unit, of the store and of the port. -/

theorem snapshotTakeWork_responds : Responds s (snapshotTakeWork ps s) := by
  unfold snapshotTakeWork
  split
  · exact ⟨rfl, by simp⟩
  · exact .refuse s _

theorem snapshotReadWork_responds : Responds s (snapshotReadWork ps s) := by
  unfold snapshotReadWork
  split
  · exact .refuse s _
  · next i _ =>
    dsimp only
    split
    · exact .refuse s _
    · split
      · exact ⟨s.copyBeforeWrite_port i, Nat.zero_le _⟩
      · exact .ok (s.copyBeforeWrite_port i) (by simp [length_shadowBytes])

theorem snapshotTotalsWork_responds : Responds s (snapshotTotalsWork ps s) := by
  unfold snapshotTotalsWork
  split
  · exact .ok rfl (by simp [length_totalBytes])
  all_goals exact .refuse s _

theorem snapshotReleaseWork_responds : Responds s (snapshotReleaseWork ps s) := .ok rfl (by simp)

theorem checkpointWork_responds : Responds s (checkpointWork ps s) := by
  unfold checkpointWork
  split
  · exact .refuse s _
  · split
    · exact ⟨rfl, by simp⟩
    · exact .refuse s _

theorem checkpointAbortWork_responds : Responds s (checkpointAbortWork ps s) := by
  unfold checkpointAbortWork
  dsimp only
  split <;> exact ⟨rfl, by simp [Answer.ok]⟩

theorem storeWipeWork_responds : Responds s (storeWipeWork ps s) := by
  unfold storeWipeWork
  split
  · exact ⟨rfl, Nat.zero_le _⟩
  · exact .refuse s _

theorem storeStatusWork_responds : Responds s (storeStatusWork ps s) :=
  .ok rfl (by simp [length_storeStatusBytes])

theorem partIdentWork_responds : Responds s (partIdentWork ps s) := .ok rfl (by simp)

end

/-! The work of the other grants and of the store leaves the port. -/

section
variable (s : State)

theorem handleReport_port (n : LineNo) (id : Identity) (sequence : Byte) (usage : Half) :
    (s.handleReport n id sequence usage).1.port = s.port := by
  have htake : ∀ i gap, (s.takeReport i n sequence usage gap).port = s.port := by
    intro i gap
    cases gap <;> simp [State.takeReport, State.recordGap]
  unfold State.handleReport
  split
  · unfold State.knownReport
    dsimp only
    split
    · simp [State.duplicateReport, State.countDuplicate]
    all_goals exact htake _ _
  · unfold State.unknownReport
    dsimp only
    split <;> rfl

theorem grantReport_port (n : LineNo) : (s.grantReport n).port = s.port := by
  unfold State.grantReport
  split
  · rfl
  · exact handleReport_port (s.turn (.line n)) n _ _ _

theorem expireSilence_port (e : TimedEntry) (rest : List TimedEntry) :
    (s.expireSilence e rest).port = s.port := by
  simp [State.expireSilence]

theorem expireGrace_port (e : TimedEntry) (rest : List TimedEntry) :
    (s.expireGrace e rest).port = s.port := by
  simp [State.expireGrace]

theorem capturePage_port (k : Fin 64) : (s.capturePage k).port = s.port := by
  rw [capturePage_eq]

theorem verifyDone_port (readBack : ReadBack) : (s.verifyDone readBack).port = s.port := by
  unfold State.verifyDone
  split
  · rfl
  · split <;> rfl

/-! Start-up and resets. -/

theorem restoreTable_port : s.restoreTable.port = s.port := by
  obtain ⟨_, _, hport, _, _⟩ := settled_kept s
  exact (restoreTable_settingsKept s).port.trans hport

/-- Going to READY, or to FAULT, leaves the queues (R174, R178, R180). -/
theorem openPort_drained {s t : State} (h : t.port = s.port) : Drained s.port t.openPort.port := by
  unfold State.openPort
  dsimp only
  rw [h]
  split <;> exact ⟨id, Nat.le_refl _, id⟩

theorem startUp_drained : Drained s.port s.startUp.port := by
  have hheader : s.readHeader.port = s.port := by rw [readHeader_eq]
  cases hm : s.store.startMode with
  | blank =>
    rw [startUp_of_blank hm]
    exact openPort_drained ((State.updateStore_port ..).trans hheader)
  | restore =>
    rw [startUp_of_restore hm]
    exact openPort_drained ((restoreTable_port _).trans hheader)

/-- A reset empties both queues and drops the request in execution (R178). -/
theorem reset_drained (p : Port) : Drained p .reset :=
  ⟨fun _ => Nat.zero_le _, Nat.zero_le _, fun _ => rfl⟩

/-! The commands. -/

/-- A command that leaves the port, or changes it only where its event happens. -/
theorem ite_portMove {c : Prop} [Decidable c] {t : State} (h : c → PortMove s.port t.port) :
    PortMove s.port (if c then t else s).port := by
  split
  · next hc => exact h hc
  · exact .of_eq rfl

theorem silenceExpiry_portMove :
    ∃ t, exec .silenceExpiry s = .next t ∧ PortMove s.port t.port := by
  refine ⟨_, rfl, ite_portMove s fun _ => .of_eq ?_⟩
  split
  · exact expireSilence_port ..
  all_goals rfl

theorem graceExpiry_portMove : ∃ t, exec .graceExpiry s = .next t ∧ PortMove s.port t.port := by
  refine ⟨_, rfl, ite_portMove s fun _ => .of_eq ?_⟩
  split
  · exact expireGrace_port ..
  all_goals rfl

theorem reportGrant_portMove (grant : LineGrant) :
    ∃ t, exec (.reportGrant grant) s = .next t ∧ PortMove s.port t.port := by
  refine ⟨_, rfl, ?_⟩
  cases grant with
  | work n => exact ite_portMove s fun _ => .of_eq (grantReport_port s n)
  | result n => exact .of_eq rfl

theorem accountPageCapture_portMove :
    ∃ t, exec .accountPageCapture s = .next t ∧ PortMove s.port t.port := by
  refine ⟨_, rfl, ite_portMove s fun _ => .of_eq ?_⟩
  dsimp only
  split
  · exact capturePage_port ..
  · rfl

theorem pinReset_portMove (event : ResetEvent) (mode : StartMode) :
    ∃ t, exec (.pinReset event mode) s = .next t ∧ PortMove s.port t.port := by
  refine ⟨_, rfl, ?_⟩
  cases event with
  | powerApplied => exact .drained (reset_drained _)
  | resetDriven =>
    dsimp only
    split
    · exact .of_eq rfl
    · exact .drained (reset_drained _)
  | released => exact ite_portMove s fun _ => .of_eq rfl

/-- PART_RESET answers BAD_PARAM, or empties the port and keeps the transaction under way (R190). -/
theorem partReset_portMove : ∃ t, exec .partReset s = .next t ∧ PortMove s.port t.port := by
  refine ⟨_, rfl, ?_⟩
  split
  · exact .of_eq rfl
  · next r hr =>
    obtain ⟨_, hx, _⟩ := (State.inExecution_eq s).mp hr
    split
    · exact .answered hx (Nat.zero_le _)
    · exact .drained ⟨fun _ => Nat.zero_le _, Nat.zero_le _, fun _ => rfl⟩

theorem executorTake_portMove : ∃ t, exec .executorTake s = .next t ∧ PortMove s.port t.port := by
  refine ⟨_, rfl, ?_⟩
  rw [State.updatePort_port]
  split
  · next h => exact .taken h
  · exact .of_eq rfl

theorem overflowFaultResponse_portMove :
    ∃ t, exec .overflowFaultResponse s = .next t ∧ PortMove s.port t.port := by
  refine ⟨_, rfl, ?_⟩
  rw [State.updatePort_port]
  split
  · next h => exact .overflowAnswered h
  · exact .of_eq rfl

end

/-- Every command answers a state whose port is one move away. -/
theorem exec_portMove (c : Instr) (s : State) :
    ∃ t, exec c s = .next t ∧ PortMove s.port t.port := by
  cases c with
  | pinReset event mode => exact pinReset_portMove s event mode
  | partReset => exact partReset_portMove s
  | startUp => exact ⟨_, rfl, ite_portMove s fun _ => .drained (startUp_drained s)⟩
  | secondEdge =>
    refine ⟨_, rfl, .of_eq ?_⟩
    split <;> rfl
  | silenceExpiry => exact silenceExpiry_portMove s
  | graceExpiry => exact graceExpiry_portMove s
  | reportGrant grant => exact reportGrant_portMove s grant
  | sweepStep | settingsPageCapture => exact ⟨_, rfl, ite_portMove s fun _ => .of_eq rfl⟩
  | accountPageCapture => exact accountPageCapture_portMove s
  | pageVerifyDone readBack => exact ⟨_, rfl, .of_eq (verifyDone_port s readBack)⟩
  | frameCharacterReceived | framingError | frameGapTimeout | reportFrame | contentionCharacter
  | replyDeadline | replyStart | replySent | pageEraseDone | pageProgramDone | wipePageEraseDone =>
    exact ⟨_, rfl, .of_eq rfl⟩
  | requestWrite | responseRead | statusRead | portFlush =>
    exact ⟨_, rfl, .drained (spiPiece_drained ..)⟩
  | unknownTransaction first piece =>
    exact ⟨_, rfl, ite_portMove s fun _ => .drained (spiPiece_drained s first piece)⟩
  | executorTake => exact executorTake_portMove s
  | overflowFaultResponse => exact overflowFaultResponse_portMove s
  | enrol => exact ⟨_, rfl, grantRequest_portMove s _ enrolWork_responds⟩
  | accountRead => exact ⟨_, rfl, grantRequest_portMove s _ accountReadWork_responds⟩
  | find => exact ⟨_, rfl, grantRequest_portMove s _ findWork_responds⟩
  | setClass => exact ⟨_, rfl, grantRequest_portMove s _ setClassWork_responds⟩
  | setGroup => exact ⟨_, rfl, grantRequest_portMove s _ setGroupWork_responds⟩
  | setLow => exact ⟨_, rfl, grantRequest_portMove s _ setLowWork_responds⟩
  | retire => exact ⟨_, rfl, grantRequest_portMove s _ retireWork_responds⟩
  | purge => exact ⟨_, rfl, grantRequest_portMove s _ purgeWork_responds⟩
  | tableStatus => exact ⟨_, rfl, grantRequest_portMove s _ tableStatusWork_responds⟩
  | highwaterReset => exact ⟨_, rfl, grantRequest_portMove s _ highwaterResetWork_responds⟩
  | adjust => exact ⟨_, rfl, grantRequest_portMove s _ adjustWork_responds⟩
  | suspend => exact ⟨_, rfl, grantRequest_portMove s _ suspendWork_responds⟩
  | unsuspend => exact ⟨_, rfl, grantRequest_portMove s _ unsuspendWork_responds⟩
  | tariffStage => exact ⟨_, rfl, directRequest_portMove s _ tariffStageWork_responds⟩
  | tariffRead => exact ⟨_, rfl, directRequest_portMove s _ tariffReadWork_responds⟩
  | tariffCommit => exact ⟨_, rfl, grantRequest_portMove s _ tariffCommitWork_responds⟩
  | tariffDiscard => exact ⟨_, rfl, directRequest_portMove s _ tariffDiscardWork_responds⟩
  | setBand => exact ⟨_, rfl, grantRequest_portMove s _ setBandWork_responds⟩
  | lineConfig => exact ⟨_, rfl, directRequest_portMove s _ lineConfigWork_responds⟩
  | lineMode => exact ⟨_, rfl, directRequest_portMove s _ lineModeWork_responds⟩
  | lineStatus => exact ⟨_, rfl, directRequest_portMove s _ lineStatusWork_responds⟩
  | lineClear => exact ⟨_, rfl, directRequest_portMove s _ lineClearWork_responds⟩
  | setUnknownPolicy => exact ⟨_, rfl, grantRequest_portMove s _ setUnknownPolicyWork_responds⟩
  | discoveryTake => exact ⟨_, rfl, grantRequest_portMove s _ discoveryTakeWork_responds⟩
  | discoveryClear => exact ⟨_, rfl, grantRequest_portMove s _ discoveryClearWork_responds⟩
  | setSilence => exact ⟨_, rfl, grantRequest_portMove s _ setSilenceWork_responds⟩
  | setGrace => exact ⟨_, rfl, grantRequest_portMove s _ setGraceWork_responds⟩
  | setTime => exact ⟨_, rfl, grantRequest_portMove s _ setTimeWork_responds⟩
  | readTime => exact ⟨_, rfl, grantRequest_portMove s _ readTimeWork_responds⟩
  | groupConfig => exact ⟨_, rfl, grantRequest_portMove s _ groupConfigWork_responds⟩
  | noticeFetch => exact ⟨_, rfl, grantRequest_portMove s _ noticeFetchWork_responds⟩
  | noticeAck => exact ⟨_, rfl, grantRequest_portMove s _ noticeAckWork_responds⟩
  | noticeClear => exact ⟨_, rfl, grantRequest_portMove s _ noticeClearWork_responds⟩
  | noticeEnable => exact ⟨_, rfl, directRequest_portMove s _ noticeEnableWork_responds⟩
  | groupStatus => exact ⟨_, rfl, grantRequest_portMove s _ groupStatusWork_responds⟩
  | snapshotTake => exact ⟨_, rfl, grantRequest_portMove s _ snapshotTakeWork_responds⟩
  | snapshotRead => exact ⟨_, rfl, grantRequest_portMove s _ snapshotReadWork_responds⟩
  | snapshotTotals => exact ⟨_, rfl, grantRequest_portMove s _ snapshotTotalsWork_responds⟩
  | snapshotRelease => exact ⟨_, rfl, grantRequest_portMove s _ snapshotReleaseWork_responds⟩
  | checkpoint => exact ⟨_, rfl, directRequest_portMove s _ checkpointWork_responds⟩
  | checkpointAbort => exact ⟨_, rfl, directRequest_portMove s _ checkpointAbortWork_responds⟩
  | storeStatus => exact ⟨_, rfl, directRequest_portMove s _ storeStatusWork_responds⟩
  | storeWipe => exact ⟨_, rfl, directRequest_portMove s _ storeWipeWork_responds⟩
  | partIdent => exact ⟨_, rfl, directRequest_portMove s _ partIdentWork_responds⟩

/-- Settles O55: a step is idle or one command, a command is one move of the port, and every move keeps
the rule of the queues. -/
theorem stepKeepsTheQueues : Obligations.StepKeepsTheQueues := by
  intro s t hs hstep
  unfold step at hstep
  split at hstep
  · cases hstep
    exact hs
  · next c rest _ =>
    obtain ⟨u, hu, hmove⟩ := exec_portMove c { s with pending := rest }
    cases hu.symm.trans hstep
    exact queuesOk_iff.mpr (hmove.queuesFit ((queuesOk_iff (s := s)).mp hs))

end Sys2Proof.Proofs.PortQueues

/-! ### SPI transactions: what each does to the port and to MISO (R178 to R183, R188, R191) -/

namespace Sys2Proof.Proofs.PortTransactions

open Sys2Proof Sys2Proof.Machine

/-! The commands. -/

theorem exec_requestWrite (piece : SpiPiece) (s : State) :
    exec (.requestWrite piece) s = .next (s.spiPiece 0x01 piece) := rfl

theorem exec_responseRead (piece : SpiPiece) (s : State) :
    exec (.responseRead piece) s = .next (s.spiPiece 0x02 piece) := rfl

theorem exec_statusRead (piece : SpiPiece) (s : State) :
    exec (.statusRead piece) s = .next (s.spiPiece 0x03 piece) := rfl

theorem exec_portFlush (piece : SpiPiece) (s : State) :
    exec (.portFlush piece) s = .next (s.spiPiece 0x04 piece) := rfl

theorem exec_unknownTransaction (first : Byte) (piece : SpiPiece) (s : State) :
    exec (.unknownTransaction first piece) s =
      .next (if SpiKind.ofFirst first = .unknown then s.spiPiece first piece else s) := rfl

/-! First bytes (R179). -/

/-- Every first byte but the four of R179 names no transaction. -/
theorem ofFirst_eq_unknown_iff {b : Byte} :
    SpiKind.ofFirst b = .unknown ↔ b ∉ [(0x01 : Byte), 0x02, 0x03, 0x04] := by
  unfold SpiKind.ofFirst
  (repeat' split) <;> simp_all

section
variable {s : State} {first : Byte} {piece : SpiPiece} {x : Spi} {q : Port}

theorem kind_of_not_ended (h : x.ended = false) : x.kind = SpiKind.ofFirst x.first := by
  simp [Spi.kind, h]

theorem kind_of_ended (h : x.ended = true) : x.kind = .unknown := by simp [Spi.kind, h]

/-! A piece of a transaction, from the port that it acts on. -/

/-- Port `q` as a piece of transaction `x` finds it: CS_N is low, and a piece that opens the transaction
has heard 00h for its first byte (R179). -/
def entered (s : State) (piece : SpiPiece) (q : Port) (x : Spi) : Port :=
  { q with
    spi := some x
    miso := if piece.opens then [0x00] else s.port.miso
    misoBits := if piece.opens then [] else s.port.misoBits }

/-- The port that a piece acts on: that of `s`, flushed where the piece opens a PORT_FLUSH (R188). -/
theorem spiPiece_eq_shift (h : s.spiOf first piece = some x) :
    x.first = first ∧ s.spiPiece first piece = { s with
      port := (entered s piece
        (if piece.opens ∧ SpiKind.ofFirst first = .portFlush then s.port.flush else s.port)
        x).shift piece.received piece.ends } := by
  obtain ⟨hfirst, q, rfl, hpiece⟩ := State.spiPiece_some h
  exact ⟨hfirst, hpiece⟩

/-- Any other transaction acts on the port of `s` as it stands. -/
theorem spiPiece_eq_shift_of_ne (h : s.spiOf first piece = some x)
    (hf : SpiKind.ofFirst first ≠ .portFlush) :
    x.first = first ∧ s.spiPiece first piece = { s with
      port := (entered s piece s.port x).shift piece.received piece.ends } := by
  have hpiece := spiPiece_eq_shift h
  rwa [if_neg fun hopens => hf hopens.2] at hpiece

/-- Byte times that leave port `q` and transaction `y` and send `sent`, in a transaction that takes
nothing from the response queue, and the rise of CS_N after them. -/
theorem shift_eq_carried {y : Spi} {p : Port} {sent : List Byte}
    (hbytes : piece.received.foldl Port.byteTime p =
      { entered s piece q y with miso := (entered s piece q y).miso ++ sent })
    (hk : y.kind ≠ .responseRead) :
    p.shift piece.received piece.ends = s.carried piece q y sent (q.nextMiso y) := by
  rw [Port.shift_eq hbytes rfl hk]
  rfl

/-- A transaction that the port ignores changes nothing but what MISO carries, and that is 00h. -/
theorem shift_of_ignored (hk : x.kind = .unknown ∨ x.kind = .portFlush) :
    (entered s piece q x).shift piece.received piece.ends =
      s.carried piece q x (List.replicate piece.received.length 0x00) 0x00 := by
  have hmiso : q.nextMiso x = 0x00 := by
    rcases hk with hk | hk <;> simp [Port.nextMiso, hk]
  have hread : x.kind ≠ .responseRead := by
    rcases hk with hk | hk <;> simp [hk]
  rw [shift_eq_carried (Port.foldl_byteTime_ignored rfl hk piece.received) hread, hmiso]

/-! REQUEST_WRITE (R180). -/

/-- A piece of a REQUEST_WRITE leaves what its bytes leave of the port. -/
theorem requestWrite_next (h : s.spiOf 0x01 piece = some x) (hx : x.ended = false)
    (hq : piece.received.foldl Port.writeByte (entered s piece s.port x) = entered s piece q x) :
    exec (.requestWrite piece) s = .next { s with
      port := s.carried piece q x (List.replicate piece.received.length 0x00) 0x00 } := by
  obtain ⟨hfirst, hpiece⟩ := spiPiece_eq_shift_of_ne h (by decide)
  have hk : x.kind = .requestWrite := by rw [kind_of_not_ended hx, hfirst]; rfl
  have hmiso : q.nextMiso x = 0x00 := by simp [Port.nextMiso, hk]
  have hbytes : piece.received.foldl Port.byteTime (entered s piece s.port x) =
      { entered s piece q x with
        miso := (entered s piece q x).miso ++ List.replicate piece.received.length 0x00 } := by
    rw [Port.foldl_byteTime_requestWrite rfl hk, hq]
    rfl
  rw [exec_requestWrite, hpiece, shift_eq_carried hbytes (by simp [hk]), hmiso]

/-- The port takes bytes in READY, and in START until an OVERFLOW (R178, R180). -/
theorem discards_eq_false {p : Port}
    (h : p.state = .ready ∨ p.state = .start ∧ p.cause = .none) : p.discards = false := by
  rcases h with h | ⟨h, hc⟩
  · simp [Port.discards, h]
  · simp [Port.discards, h, hc]

theorem discards_eq_true {p : Port}
    (h : p.state = .fault ∨ p.state = .start ∧ p.cause ≠ .none) : p.discards = true := by
  rcases h with h | ⟨h, hc⟩
  · simp [Port.discards, h]
  · simp [Port.discards, h, hc]

theorem rdy_iff : s.rdy = true ↔ s.port.requests.length + 64 ≤ 256 ∧ s.resetHeld = false := by
  simp only [State.rdy, Bool.and_eq_true, Bool.not_eq_true', decide_eq_true_eq]
  rw [and_comm]
  exact and_congr_left fun _ => by omega

end

/-- Settles O31: the bytes of a piece fit, overflow or are discarded, as the port and the room are. -/
theorem requestWriteFillsTheQueue : Obligations.RequestWriteFillsTheQueue := by
  refine ⟨fun s piece x h hx => ⟨fun hstate => ⟨fun hroom => ?_, fun hover hfit => ?_⟩,
    fun hstate => ?_⟩, fun s => rdy_iff⟩
  · refine requestWrite_next h hx ?_
    rw [Port.foldl_writeByte_fits (p := entered s piece s.port x) (discards_eq_false hstate) _ hroom]
    rfl
  · refine requestWrite_next h hx ?_
    rw [Port.foldl_writeByte_overflow (p := entered s piece s.port x) (discards_eq_false hstate) _
      hfit hover]
    rcases hstate with hstate | ⟨hstate, _⟩ <;>
      simp [Port.overflow, entered, hstate, Config.requestRoom]
  · refine requestWrite_next h hx ?_
    rw [Port.foldl_writeByte_discards (p := entered s piece s.port x) (discards_eq_true hstate)]

/-! RESPONSE_READ (R181). -/

section
variable {s : State} {first : Byte} {piece : SpiPiece} {x : Spi} {p : Port}

/-- The rise of CS_N in a RESPONSE_READ: a byte whose first bit has been sent is removed all the same
(R181). -/
theorem endTransaction_responseRead (h : p.spi = some x) (hk : x.kind = .responseRead) (n : Fin 8) :
    p.endTransaction n = { p with
      responses := p.responses.drop (if n ≠ 0 then 1 else 0)
      underrun := p.underrun || decide (p.responses.length < if n ≠ 0 then 1 else 0)
      spi := none
      misoBits := (List.range n.val).map fun i => (p.responses.headD 0x00).getLsbD (7 - i) } := by
  have hmiso : p.nextMiso x = p.responses.headD 0x00 := by simp [Port.nextMiso, hk]
  simp only [Port.endTransaction, h, leadingBits_eq, hmiso]
  by_cases hn : n = 0
  · simp [hn]
  · have hempty : p.responses.isEmpty = decide (p.responses.length < 1) := by
      cases p.responses <;> simp
    simp [hn, Port.firstBit, hk, hempty]

/-- Bytes taken in two parts run short exactly where the whole would. -/
theorem underrun_drop (underrun : Bool) (rs : List Byte) (n k : Nat) :
    (underrun || decide (rs.length < n) || decide ((rs.drop n).length < k)) =
      (underrun || decide (rs.length < n + k)) := by
  have hshort : rs.length < n ∨ rs.length - n < k ↔ rs.length < n + k := by omega
  rw [Bool.or_assoc, ← Bool.decide_or, List.length_drop, decide_eq_decide.mpr hshort]

/-- What a piece of RESPONSE_READ leaves: the bytes it began are gone from the queue. -/
theorem shift_of_responseRead (hk : x.kind = .responseRead) :
    (entered s piece s.port x).shift piece.received piece.ends =
      s.carried piece
        { s.port with
          responses := s.port.responses.drop
            (piece.received.length + if SpiPiece.cuts piece then 1 else 0)
          underrun := s.port.underrun || decide (s.port.responses.length <
            piece.received.length + if SpiPiece.cuts piece then 1 else 0) }
        x
        ((s.port.responses ++ List.replicate piece.received.length 0x00).take piece.received.length)
        ((s.port.responses.drop piece.received.length).headD 0x00) := by
  have hbytes := Port.foldl_byteTime_responseRead (p := entered s piece s.port x) rfl hk
    piece.received
  unfold Port.shift
  rw [hbytes]
  cases hends : piece.ends with
  | none => simp [SpiPiece.cuts, State.carried, entered, hends]
  | some n =>
    have hcuts : SpiPiece.cuts piece = (n != 0) := by rw [SpiPiece.cuts, hends, Option.any_some]
    have hbegun : (if SpiPiece.cuts piece = true then 1 else 0) = if n ≠ 0 then 1 else 0 := by
      simp only [hcuts, bne_iff_ne]
    dsimp only
    rw [endTransaction_responseRead rfl hk, hbegun, ← underrun_drop, ← List.drop_drop,
      State.carried, hends]
    rfl

theorem responseRead_next (h : s.spiOf 0x02 piece = some x) (hx : x.ended = false) :
    exec (.responseRead piece) s = .next { s with
      port := (entered s piece s.port x).shift piece.received piece.ends } ∧
      x.kind = .responseRead := by
  obtain ⟨hfirst, hpiece⟩ := spiPiece_eq_shift_of_ne h (by decide)
  rw [exec_responseRead, hpiece, kind_of_not_ended hx, hfirst]
  exact ⟨rfl, rfl⟩

/-! STATUS_READ (R182). -/

/-- What a piece of STATUS_READ leaves: the status bytes still to send, and an underrun flag that the
end of the last of them clears. -/
theorem statusRead_next (h : s.spiOf 0x03 piece = some x) (hx : x.ended = false) :
    exec (.statusRead piece) s = .next { s with
      port := s.carried piece
        { s.port with
          underrun := s.port.underrun &&
            !decide (1 ≤ x.status.length ∧ x.status.length ≤ piece.received.length) }
        { x with status := x.status.drop piece.received.length }
        ((x.status ++ List.replicate piece.received.length 0x00).take piece.received.length)
        ((x.status.drop piece.received.length).headD 0x00) } := by
  obtain ⟨hfirst, hpiece⟩ := spiPiece_eq_shift_of_ne h (by decide)
  have hk : x.kind = .statusRead := by rw [kind_of_not_ended hx, hfirst]; rfl
  have hk' : Spi.kind { x with status := x.status.drop piece.received.length } = .statusRead := hk
  have hshift := shift_eq_carried (s := s)
    (y := { x with status := x.status.drop piece.received.length })
    (q := { s.port with
      underrun := s.port.underrun &&
        !decide (1 ≤ x.status.length ∧ x.status.length ≤ piece.received.length) })
    (Port.foldl_byteTime_statusRead (p := entered s piece s.port x) rfl hk piece.received)
    (by simp [hk'])
  rw [exec_statusRead, hpiece, hshift]
  simp [Port.nextMiso, hk']

/-! PORT_FLUSH, and what the port ignores (R179, R188, R190). -/

/-- A piece of a transaction that has no effect on the port, or had it at its first byte. -/
theorem spiPiece_of_ignored (h : s.spiOf first piece = some x)
    (hk : x.kind = .unknown ∨ x.kind = .portFlush) :
    s.spiPiece first piece = { s with
      port := s.carried piece
        (if piece.opens ∧ SpiKind.ofFirst first = .portFlush then s.port.flush else s.port) x
        (List.replicate piece.received.length 0x00) 0x00 } := by
  obtain ⟨_, hpiece⟩ := spiPiece_eq_shift h
  rw [hpiece, shift_of_ignored hk]

theorem portFlush_next (h : s.spiOf 0x04 piece = some x) :
    exec (.portFlush piece) s = .next { s with
      port := s.carried piece (if piece.opens then s.port.flush else s.port) x
        (List.replicate piece.received.length 0x00) 0x00 } := by
  obtain ⟨hfirst, _⟩ := spiPiece_eq_shift h
  have hflush : SpiKind.ofFirst 0x04 = .portFlush := by decide
  have hk : x.kind = .unknown ∨ x.kind = .portFlush := by
    cases hx : x.ended with
    | true => exact .inl (kind_of_ended hx)
    | false => exact .inr (by rw [kind_of_not_ended hx, hfirst, hflush])
  rw [exec_portFlush, spiPiece_of_ignored h hk]
  simp only [hflush, and_true]

/-- A transaction that is no PORT_FLUSH and that the port ignores. -/
theorem spiPiece_of_unknown (h : s.spiOf first piece = some x)
    (hf : SpiKind.ofFirst first ≠ .portFlush) (hk : x.kind = .unknown) :
    s.spiPiece first piece = { s with
      port := s.carried piece s.port x (List.replicate piece.received.length 0x00) 0x00 } := by
  rw [spiPiece_of_ignored h (.inl hk), if_neg fun hopens => hf hopens.2]

/-- An unknown first byte makes every byte of its transaction an ignored one. -/
theorem kind_of_unknown (h : s.spiOf first piece = some x) (hf : SpiKind.ofFirst first = .unknown) :
    x.kind = .unknown := by
  obtain ⟨hfirst, _⟩ := spiPiece_eq_shift h
  cases hx : x.ended with
  | true => exact kind_of_ended hx
  | false => rw [kind_of_not_ended hx, hfirst, hf]

/-! The status bytes (R182, R191). -/

/-- The fields of the flag byte, in their places. -/
theorem flag_fields : ∀ (note busy underrun : Bool) (snapshot cause : BitVec 2),
    let flags : Byte := yesNo note ||| (snapshot.setWidth 8 <<< 1) ||| (yesNo busy <<< 3) |||
      (yesNo underrun <<< 4) ||| (cause.setWidth 8 <<< 5)
    flags.getLsbD 0 = note ∧ flags.extractLsb' 1 2 = snapshot ∧ flags.getLsbD 3 = busy ∧
      flags.getLsbD 4 = underrun ∧ flags.extractLsb' 5 2 = cause ∧ flags.getLsbD 7 = false := by
  decide

/-- The snapshot states as two bits (R191). -/
def snapshotBits : SnapshotState → BitVec 2
  | .idle => 0
  | .sweeping => 1
  | .ready => 2

theorem snapshot_code_eq (st : SnapshotState) : st.code = (snapshotBits st).setWidth 8 := by
  cases st <;> rfl

/-- The fault causes as two bits (R191). -/
def causeBits : FaultCause → BitVec 2
  | .none => 0
  | .unknownCode => 1
  | .badLength => 2
  | .overflow => 3

theorem cause_code_eq (c : FaultCause) : c.code = (causeBits c).setWidth 8 := by
  cases c <;> rfl

theorem noteN_iff {n : Notices} :
    n.noteN = true ↔ n.enable = true ∧ ∃ g : GroupNo, n.groups[g].state = .raised := by
  simp only [Notices.noteN, Bool.and_eq_true, Vector.any_eq_true, beq_iff_eq]
  exact and_congr_right fun _ =>
    ⟨fun ⟨i, hi, h⟩ => ⟨⟨i, hi⟩, h⟩, fun ⟨g, h⟩ => ⟨g.val, g.isLt, h⟩⟩

theorem busy_iff {st : StoreState} :
    st.busy = true ↔ st = .checkpoint ∨ st = .aborting ∨ st = .wiping := by
  cases st <;> simp [StoreState.busy]

theorem countByte_toNat (n : Nat) : (countByte n).toNat = min 255 n := by
  unfold countByte
  split
  · simp
    omega
  · simp
    omega

theorem statusBytes_fields (s : State) : ∃ requests responses flags : Byte,
    s.statusBytes = [s.port.state.code, requests, responses, flags] ∧
    requests.toNat = min 255 s.port.requests.length ∧
    responses.toNat = min 255 (s.port.responses.length / 2) ∧
    (flags.getLsbD 0 = true ↔
      s.notices.enable = true ∧ ∃ g : GroupNo, s.notices.groups[g].state = .raised) ∧
    flags.extractLsb' 1 2 = snapshotBits s.snapshot.state ∧
    (flags.getLsbD 3 = true ↔ s.store.state = .checkpoint ∨ s.store.state = .aborting ∨
      s.store.state = .wiping) ∧
    flags.getLsbD 4 = s.port.underrun ∧
    flags.extractLsb' 5 2 = causeBits s.port.cause ∧
    flags.getLsbD 7 = false := by
  obtain ⟨hnote, hsnapshot, hbusy, hunderrun, hcause, hzero⟩ :=
    flag_fields s.notices.noteN s.store.state.busy s.port.underrun (snapshotBits s.snapshot.state)
      (causeBits s.port.cause)
  rw [← snapshot_code_eq, ← cause_code_eq] at hnote hsnapshot hbusy hunderrun hcause hzero
  exact ⟨_, _, s.flagByte, rfl, countByte_toNat _, countByte_toNat _,
    (Bool.eq_iff_iff.mp hnote).trans noteN_iff, hsnapshot, (Bool.eq_iff_iff.mp hbusy).trans busy_iff,
    hunderrun, hcause, hzero⟩

end

/-- Settles O32: a piece of each transaction in turn, then the pieces without an event. -/
theorem transactionsActOnThePort : Obligations.TransactionsActOnThePort := by
  refine ⟨⟨by decide, by decide, by decide, by decide, fun b => ofFirst_eq_unknown_iff.mpr⟩,
    fun s piece x h hx => ?_, fun s piece x => statusRead_next, statusBytes_fields,
    fun s piece x => portFlush_next, fun s first piece x h => ⟨fun hf => ?_, ?_, ?_, ?_⟩,
    fun s piece => ⟨fun h => ?_, fun h => ?_, fun h => ?_, fun h => ?_, fun first h => ?_⟩⟩
  · obtain ⟨hexec, hk⟩ := responseRead_next h hx
    exact hexec.trans (by rw [shift_of_responseRead hk])
  · have hunknown := ofFirst_eq_unknown_iff.mpr hf
    rw [exec_unknownTransaction, if_pos hunknown,
      spiPiece_of_unknown h (by simp [hunknown]) (kind_of_unknown h hunknown)]
  · rintro hx rfl
    rw [exec_requestWrite, spiPiece_of_unknown h (by decide) (kind_of_ended hx)]
  · rintro hx rfl
    rw [exec_responseRead, spiPiece_of_unknown h (by decide) (kind_of_ended hx)]
  · rintro hx rfl
    rw [exec_statusRead, spiPiece_of_unknown h (by decide) (kind_of_ended hx)]
  · rw [exec_requestWrite, State.spiPiece_none h]
  · rw [exec_responseRead, State.spiPiece_none h]
  · rw [exec_statusRead, State.spiPiece_none h]
  · rw [exec_portFlush, State.spiPiece_none h]
  · rw [exec_unknownTransaction]
    rcases h with h | h
    · rw [State.spiPiece_none h, ite_self]
    · rw [if_neg h]

end Sys2Proof.Proofs.PortTransactions

/-! ### The executor and PART_IDENT (R184, R185, R187, R189, R192) -/

namespace Sys2Proof.Proofs.Executor

open Sys2Proof Sys2Proof.Machine
open Sys2Proof.Proofs.NoticeRequests (answers_of_directRequest)
open Sys2Proof.Proofs.PortQueues (mayTake_iff owesFaultResponse_iff)

/-! The commands. -/

theorem exec_executorTake (s : State) :
    exec .executorTake s = .next (s.updatePort fun p => if p.mayTake then p.take else p) := rfl

theorem exec_overflowFaultResponse (s : State) :
    exec .overflowFaultResponse s = .next (s.updatePort fun p =>
      if p.owesFaultResponse then
        { p with
          faultResponse := false
          responses := p.responses ++ responseBytes 0x00 0x00 FaultCause.overflow.answer }
      else p) := rfl

theorem exec_partIdent (s : State) :
    exec .partIdent s = .next (s.directRequest .partIdent partIdentWork) := rfl

/-! Codes and lengths (R192). -/

/-- The table of R192 lists every request once, with its code and its range of lengths. -/
theorem requestTable_eq : requestTable = Req.all.map fun q => (q, q.code, q.lengths) := by decide

theorem mem_all (q : Req) : q ∈ Req.all := by cases q <;> decide

theorem mem_requestTable_iff {q : Req} {code : Byte} {least most : Nat} :
    (q, code, least, most) ∈ requestTable ↔ q.code = code ∧ q.lengths = (least, most) := by
  simp [requestTable_eq, mem_all]

theorem ofCode_code (q : Req) : Req.ofCode q.code = some q := by cases q <;> rfl

/-- A code that the table does not list names no request. -/
theorem ofCode_eq_none {b : Byte} (h : ∀ row ∈ requestTable, row.2.1 ≠ b) : Req.ofCode b = none := by
  refine List.find?_eq_none.mpr fun q _ hq => ?_
  exact h (q, q.code, q.lengths) (mem_requestTable_iff.mpr ⟨rfl, rfl⟩) (eq_of_beq hq)

/-! What the executor does with the front of the request queue (R185). -/

section
variable {p : Port}

theorem take_of_unknownCode (h : Req.ofCode (byteAt p.requests 0) = none) :
    p.take = p.headerFault (byteAt p.requests 1) (byteAt p.requests 0) .unknownCode := by
  simp only [Port.take, h]

variable {q : Req} {least most : Nat}

theorem take_of_code (hq : Req.ofCode (byteAt p.requests 0) = some q)
    (hl : q.lengths = (least, most)) :
    p.take =
      if (byteAt p.requests 2).toNat < least ∨ most < (byteAt p.requests 2).toNat then
        p.headerFault (byteAt p.requests 1) (byteAt p.requests 0) .badLength
      else if p.requests.length < 3 + (byteAt p.requests 2).toNat then p
      else
        { p with
          requests := p.requests.drop (3 + (byteAt p.requests 2).toNat)
          executing := some
            { req := q
              tag := byteAt p.requests 1
              params := (p.requests.drop 3).take (byteAt p.requests 2).toNat } } := by
  simp only [Port.take, hq, hl]

end

section
variable {s : State}

/-- Where the executor may look at a header, EXECUTOR_TAKE leaves what it makes of that header. -/
theorem executorTake_next (h : s.port.mayTake = true) {p : Port} (hp : s.port.take = p) :
    exec .executorTake s = .next { s with port := p } := by
  rw [exec_executorTake, State.updatePort, if_pos h, hp]

theorem executorTake_of_not (h : ¬s.port.mayTake = true) : exec .executorTake s = .next s := by
  rw [exec_executorTake, State.updatePort, if_neg h]

theorem overflowFaultResponse_next (h : s.port.owesFaultResponse = true) :
    exec .overflowFaultResponse s = .next { s with port := { s.port with
      faultResponse := false
      responses := s.port.responses ++ [0x00, 0x00, 0x20, 0x01, 0x03] } } := by
  rw [exec_overflowFaultResponse, State.updatePort, if_pos h]
  rfl

theorem overflowFaultResponse_of_not (h : ¬s.port.owesFaultResponse = true) :
    exec .overflowFaultResponse s = .next s := by
  rw [exec_overflowFaultResponse, State.updatePort, if_neg h]

end

/-- Settles O33: `Port.take` has a case for each clause, and the table of R192 says which applies. -/
theorem executorTakesOrFaults : Obligations.ExecutorTakesOrFaults := by
  refine ⟨fun s => ⟨fun hstate hx hheader hroom => ?_, fun h => ?_⟩,
    fun s => ⟨fun howed hstate hx hroom => ?_, fun h => ?_⟩⟩
  · have hmay := mayTake_iff.mpr ⟨hstate, hx, hheader, hroom⟩
    refine ⟨fun hrow => ?_, fun q least most hmem => ?_⟩
    · exact executorTake_next hmay (take_of_unknownCode (ofCode_eq_none hrow))
    · obtain ⟨hcode, hlengths⟩ := mem_requestTable_iff.mp hmem
      have htake := take_of_code (p := s.port) (hcode ▸ ofCode_code q) hlengths
      refine ⟨fun hbad => ?_, fun hleast hmost hshort => ?_, fun hleast hmost hwhole => ?_⟩
      · exact executorTake_next hmay (htake.trans (if_pos hbad))
      all_goals rw [if_neg (not_or.mpr ⟨Nat.not_lt.mpr hleast, Nat.not_lt.mpr hmost⟩)] at htake
      · exact executorTake_next hmay (htake.trans (if_pos hshort))
      · exact executorTake_next hmay (htake.trans (if_neg (Nat.not_lt.mpr hwhole)))
  · refine executorTake_of_not fun hmay => ?_
    obtain ⟨hstate, hx, hheader, hroom⟩ := mayTake_iff.mp hmay
    rcases h with h | h | h | h
    · exact h hstate
    · exact h hx
    all_goals omega
  · exact overflowFaultResponse_next (owesFaultResponse_iff.mpr ⟨howed, hstate, hx, hroom⟩)
  · refine overflowFaultResponse_of_not fun howes => ?_
    obtain ⟨howed, hstate, hx, hroom⟩ := owesFaultResponse_iff.mp howes
    rcases h with h | h | h | h
    · simp [howed] at h
    · exact hstate h
    · exact h hx
    · omega

/-- Settles O34: PART_IDENT needs no grant, and its six bytes are the constants of R189. -/
theorem partIdentAnswers : Obligations.PartIdentAnswers := fun s _ h =>
  answers_of_directRequest h rfl (exec_partIdent s) rfl

end Sys2Proof.Proofs.Executor

/-! ### One step of the machine: the queue of commands (log 3) -/

namespace Sys2Proof.Proofs.Stepping

open Sys2Proof Sys2Proof.Machine

/-- On an empty queue the part idles (log 3). -/
theorem step_of_pending_nil {s : State} (h : s.pending = []) : step s = .next s := by
  rw [step, h]

/-- The command at the front of the queue leaves it before it is carried out. -/
theorem step_of_pending_cons {s : State} {c : Instr} {rest : List Instr}
    (h : s.pending = c :: rest) : step s = exec c { s with pending := rest } := by
  rw [step, h]

/-- Settles O1: `step` follows the constructors of the queue, and each has its equation. -/
theorem stepRunsTheFrontCommand : Obligations.StepRunsTheFrontCommand := fun _ =>
  ⟨fun _ _ hcons => step_of_pending_cons hcons, fun hnil => step_of_pending_nil hnil⟩

end Sys2Proof.Proofs.Stepping
